-- ==== Sys2Proof/Word.lean ====
section
/-! DEFINITION. Sys2Proof/Word.lean: the bit vectors the machine computes with. Every register is 64 bits wide
(rules R8, R30); memory and the program image are made of bytes (rule R60). -/

namespace Sys2Proof

/-- A register value, an address, a canonical instruction word: 64 bits (rules R30, R65, R91). -/
abbrev Word := BitVec 64

/-- One byte of data memory or of a program image (rule R60). -/
abbrev Byte := BitVec 8

/-- A register number: 0 to 10 name R0 to R10; no other register exists (rule R30). -/
abbrev Reg := Fin 11

end Sys2Proof
end

