-- ==== Sys2Proof/Config.lean ====
section
/-! DEFINITION. Sys2Proof/Config.lean: what a platform fixes before a run (rules R8 to R14, R66, R320), and the
free values of the model. The spec says "The model takes one configuration record": it is `Config`, held in the
state as data, so that every statement holds for every value of every parameter. The opaque constants at the end
are the spec's draws (rule R22): nothing constrains them. -/

namespace Sys2Proof

/-- `BYTE_ORDER` (rule R9): one value for the program image, data accesses and the byte swaps. -/
inductive ByteOrder where
  | le
  | be
  deriving DecidableEq, Repr

/-- `SHIFT_POLICY` (rule R144): mask the amount, or refuse an amount of the width or more. -/
inductive ShiftPolicy where
  | mask
  | refuse
  deriving DecidableEq, Repr

/-- `ALIGN_POLICY` (rule R68): `reference` lets plain accesses be misaligned; `strict` faults them too. -/
inductive AlignPolicy where
  | reference
  | strict
  deriving DecidableEq, Repr

/-- `LOCAL_CALL_FIELD` (rule R264): the field that carries the distance of a BPF-local call. -/
inductive LocalCallField where
  | offset
  | imm
  deriving DecidableEq, Repr

/-- `UNINIT_POLICY` (rule R36): reading a register that holds no value faults, or gives a draw. -/
inductive UninitPolicy where
  | fault
  | draw
  deriving DecidableEq, Repr

/-- Why an instruction accesses memory (rules R62, R63, R82; the `kind` of a `MemoryFault`, rule R351). -/
inductive AccessKind where
  | read
  | write
  | atomic
  deriving DecidableEq, Repr

/-- One entry of `REGIONS` (rule R66). -/
structure Region where
  base : Nat
  size : Nat
  readable : Bool
  writable : Bool
  shared : Bool
  deriving DecidableEq, Repr

/-- The whole range `addr .. addr+n-1` lies in the region (rule R66). -/
def Region.containsRange (g : Region) (addr n : Nat) : Bool :=
  decide (g.base ≤ addr) && decide (addr + n ≤ g.base + g.size)

/-- The region has the right an access of this kind needs: an atomic needs both (rules R66, R82, R354). -/
def Region.permits (g : Region) : AccessKind → Bool
  | .read => g.readable
  | .write => g.writable
  | .atomic => g.readable && g.writable

/-- The two numbering spaces of helper functions (rules R261, R263). -/
inductive HelperSpace where
  | agnostic
  | platform
  deriving DecidableEq, Repr

/-- What a platform's helper computes with (rule R262 (a)): 64-bit values, unsigned where it matters. A comparison
gives 1 or 0; with a zero divisor `div` gives 0 and `mod` the dividend; a shift takes its amount modulo 64. -/
inductive HelperOp where
  | add
  | sub
  | mul
  | div
  | mod
  | and
  | or
  | xor
  | shl
  | shr
  | eq
  | lt
  | slt
  deriving DecidableEq, Repr

/-- A value a helper computes from what rule R262 (a) and (c) let it see: the values of R1 to Rk, the content of data
memory before the call, and draws (log 10, log 24). -/
inductive HelperExpr where
  | const (v : Word)
  /-- The value of R1 to R5, counted from 0; a draw where the helper's arity does not reach. -/
  | arg (i : Fin 5)
  /-- A draw of this call: a random number, a time, state of the environment. -/
  | draw (k : Nat)
  /-- The value of `n` bytes of memory, zero-extended, in the byte order of the machine. -/
  | load (n : Nat) (addr : HelperExpr)
  | op (o : HelperOp) (a b : HelperExpr)
  /-- The second when the first is not 0, else the third. -/
  | ite (c a b : HelperExpr)
  deriving DecidableEq, Repr

/-- A change a helper makes to data memory (rule R262 (a), (c)); all are computed from the memory before the call. -/
inductive HelperEffect where
  /-- The low `n` bytes of a value at an address, in the byte order of the machine. -/
  | store (n : Nat) (addr value : HelperExpr)
  /-- `len` bytes from `src` on, to `dst` on. -/
  | copy (dst src len : HelperExpr)
  /-- The low byte of a value at each of `len` addresses from `dst` on. -/
  | fill (dst len value : HelperExpr)
  /-- A draw at each of `len` addresses from `dst` on. -/
  | scramble (dst len : HelperExpr)
  deriving DecidableEq, Repr

/-- What one call of a helper gave (rule R262 (a)): the 64-bit result, and the bytes of memory that changed. -/
structure HelperAnswer where
  result : Word
  cells : List Host.Cell
  deriving DecidableEq, Repr

/-- The behaviour of a helper (rules R13, R262 (a)), as plain data. -/
inductive HelperBehaviour where
  /-- Nothing is known of it: result and writes are free values. -/
  | free
  /-- The result and the writes are computed; draws make them as free as the platform says. -/
  | computes (result : HelperExpr) (effects : List HelperEffect)
  /-- What the helper answers in the steps of the run that are listed by number, and anything in the others: any
  relation at all, one answer of it for each call. -/
  | answers (given : List (Nat × HelperAnswer))
  deriving DecidableEq, Repr

/-- An entry of a helper table (rule R262 (a)): arity 0 to 5 and behaviour. -/
structure Helper where
  arity : Fin 6
  behaviour : HelperBehaviour
  deriving DecidableEq, Repr

/-- The implementation parameters (rules R9 to R14, R66, R320, R382). Partial functions of the platform are
lists of pairs; the first pair with the key counts. `maxCallDepth` and `programMaxSlots` are `none` where the
platform sets no bound (rules R358, R14). -/
structure Config where
  byteOrder : ByteOrder
  stackBase : Nat
  stackSize : Nat
  /-- `REGIONS` without the stack region, which is always present (rule R67). -/
  regions : List Region
  /-- `ENTRY_ARGS` for R1 to R5; `none` where the program type gives no value (rule R11). -/
  entryArgs : Vector (Option Word) 5
  hasMaps : Bool
  hasMapFd : Bool
  hasVariables : Bool
  hasPlatformHelpers : Bool
  hasLegacyPacket : Bool
  /-- `HELPERS_AGNOSTIC`: from a helper's integer to its arity and behaviour (rules R13, R262, R382). -/
  helpersAgnostic : List (Int × Helper)
  /-- `HELPERS_PLATFORM` (rules R13, R263). -/
  helpersPlatform : List (Int × Helper)
  mapByFd : List (BitVec 32 × Word)
  mapByIdx : List (BitVec 32 × Word)
  variableAddr : List (BitVec 32 × Word)
  /-- `mva`, from the address of a map object to the address of its first value (rule R323). -/
  mva : List (Word × Word)
  /-- `code_addr`, from the target's slot index to an opaque code pointer (rule R325). -/
  codeAddr : List (Nat × Word)
  shiftPolicy : ShiftPolicy
  alignPolicy : AlignPolicy
  localCallField : LocalCallField
  frameStride : Word
  maxCallDepth : Option Nat
  uninitPolicy : UninitPolicy
  programMaxSlots : Option Nat
  deriving DecidableEq, Repr

/-- The reference values (rules R9 to R14, R374): the ones the spec's test vectors use. -/
def Config.reference : Config where
  byteOrder := .le
  stackBase := 0x10000000
  stackSize := 512
  regions := []
  entryArgs := #v[none, none, none, none, none]
  hasMaps := false
  hasMapFd := false
  hasVariables := false
  hasPlatformHelpers := false
  hasLegacyPacket := false
  helpersAgnostic := []
  helpersPlatform := []
  mapByFd := []
  mapByIdx := []
  variableAddr := []
  mva := []
  codeAddr := []
  shiftPolicy := .mask
  alignPolicy := .reference
  localCallField := .offset
  frameStride := 0
  maxCallDepth := some 8
  uninitPolicy := .fault
  programMaxSlots := none

/-- The stack region (rule R67): readable, writable, not shared. -/
def Config.stackRegion (c : Config) : Region :=
  { base := c.stackBase, size := c.stackSize, readable := true, writable := true, shared := false }

/-- `REGIONS` as rule R66 uses it: the stack region is always in it (rule R67). -/
def Config.allRegions (c : Config) : List Region := c.stackRegion :: c.regions

/-- One of the two regions ends at or before the base of the other (rule R66: "pairwise disjoint"): regions that are
not empty have then, and only then, no byte in common. DESIGN CHOICE (log 26): rule R66 does not speak of a region of
size 0; one that lies strictly inside another is not disjoint from it here. -/
def Region.disjoint (g h : Region) : Bool :=
  decide (g.base + g.size ≤ h.base) || decide (h.base + h.size ≤ g.base)

/-- What rules R66, R67 and R382 ask of the platform's regions: pairwise disjoint, none beyond 2^64. -/
def Config.regionsWf (c : Config) : Bool :=
  c.allRegions.all (fun g => decide (g.base + g.size ≤ 2 ^ 64)) &&
    decide (c.allRegions.Pairwise (fun g h => g.disjoint h = true))

/-- Where maps are supported, the values of a map are a region flagged `shared`, and `mva` gives its base (rules R323,
R327, R328; log 25). DESIGN CHOICE (log 27): rule R322 puts no region at the address of a map object and does not say
whether the platform's `REGIONS` may contain that address; nothing here excludes it. -/
def Config.mapsWf (c : Config) : Bool :=
  !c.hasMaps || c.mva.all (fun p => c.allRegions.any (fun g => g.shared && decide (g.base = p.2.toNat)))

/-- Where variables are supported, a variable is a region, shared or not, and `variable_addr` gives its base (rules
R324, R329; log 25). -/
def Config.variablesWf (c : Config) : Bool :=
  !c.hasVariables || c.variableAddr.all (fun p => c.allRegions.any (fun g => decide (g.base = p.2.toNat)))

/-- What the spec asks of the platform's parameters: of its regions, and of the addresses it gives maps and
variables. -/
def Config.wf (c : Config) : Bool := c.regionsWf && c.mapsWf && c.variablesWf

/-- R10 at entry: one past the highest byte of the stack (rule R35). DESIGN CHOICE (log 23): rules R67 and R382 allow
STACK_BASE + STACK_SIZE = 2^64, which is no 64-bit value, and rule R10 does not say what R10 then holds; here the sum
is taken modulo 2^64, so R10 holds 0. -/
def Config.entryFramePointer (c : Config) : Word := BitVec.ofNat 64 (c.stackBase + c.stackSize)

/-- The operand position of a register read: a draw may differ "at each read" (rule R36). -/
inductive ReadPos where
  | dst
  | src
  | r0
  | arg
  | frame
  deriving DecidableEq, Repr

/-- FREE VALUE: what a read of register `r`, at operand position `pos` of the instruction of step number `n`,
gives when the register holds no value and `UNINIT_POLICY = draw` (rule R36; log 4). -/
opaque Config.drawReg (n : Nat) (pos : ReadPos) (r : Reg) : Word

/-- FREE VALUE: what the byte at `addr`, which nothing has written, reads as in step number `n`, where such a read is
a draw: a byte of the stack or of a shared region (rules R62, R67; log 7). -/
opaque Config.drawByte (n addr : Nat) : Byte

/-- FREE VALUE: what any other byte, one the environment may not write, holds from entry on until something is written
there: the same at every step (rule R72; log 7). -/
opaque Config.initialByte (c : Config) (addr : Nat) : Byte

/-- FREE VALUE: the result of a helper of free behaviour, called in step number `n` on these arguments and this
memory (rule R262; log 10). -/
opaque Config.helperResult (space : HelperSpace) (id : Int) (args : List Word) (mem : List Host.Cell) (n : Nat) : Word

/-- FREE VALUE: the bytes such a helper call writes (rule R262; log 10). -/
opaque Config.helperWrites (space : HelperSpace) (id : Int) (args : List Word) (mem : List Host.Cell) (n : Nat) :
  List Host.Cell

/-- FREE VALUE: draw `k` of a helper that computes, called in step number `n` (rules R22, R262 (a); log 24). -/
opaque Config.helperDraw (n k : Nat) : Word

/-- FREE VALUE: the byte such a helper draws for address `a` (rules R22, R262 (a); log 24). -/
opaque Config.helperByte (n a : Nat) : Byte

end Sys2Proof
end

