-- ==== Sys2Proof/Syntax.lean ====
section
/-! DEFINITION. Sys2Proof/Syntax.lean: the instructions, one constructor for each of the 152 rows of
spec/opcode_table.json (rule R129), named as rule R127 names them. A field an instruction does not use is no argument:
the decoder checks that it is zero (rule R119). `callLocal` carries both `offset` and `imm` because LOCAL_CALL_FIELD
says which one is used (rule R264). A legacy opcode's other fields are "not checked" (rule R109): its constructor
carries bits 63:8 of the word as they stand. -/

namespace Sys2Proof

/-- An instruction of eBPF ISA v1.0 (rules R109, R110). -/
inductive Instr where
  /-- `add32 rD, imm`, opcode 0x04 (rule R150). -/
  | add32Imm (dst : Reg) (imm : BitVec 32)
  /-- `add32 rD, rS`, opcode 0x0c (rule R151). -/
  | add32Reg (dst src : Reg)
  /-- `add64 rD, imm`, opcode 0x07 (rule R152). -/
  | add64Imm (dst : Reg) (imm : BitVec 32)
  /-- `add64 rD, rS`, opcode 0x0f (rule R153). -/
  | add64Reg (dst src : Reg)
  /-- `sub32 rD, imm`, opcode 0x14 (rule R154). -/
  | sub32Imm (dst : Reg) (imm : BitVec 32)
  /-- `sub32 rD, rS`, opcode 0x1c (rule R155). -/
  | sub32Reg (dst src : Reg)
  /-- `sub64 rD, imm`, opcode 0x17 (rule R156). -/
  | sub64Imm (dst : Reg) (imm : BitVec 32)
  /-- `sub64 rD, rS`, opcode 0x1f (rule R157). -/
  | sub64Reg (dst src : Reg)
  /-- `mul32 rD, imm`, opcode 0x24 (rule R158). -/
  | mul32Imm (dst : Reg) (imm : BitVec 32)
  /-- `mul32 rD, rS`, opcode 0x2c (rule R159). -/
  | mul32Reg (dst src : Reg)
  /-- `mul64 rD, imm`, opcode 0x27 (rule R160). -/
  | mul64Imm (dst : Reg) (imm : BitVec 32)
  /-- `mul64 rD, rS`, opcode 0x2f (rule R161). -/
  | mul64Reg (dst src : Reg)
  /-- `div32 rD, imm`, opcode 0x34 (rule R162). -/
  | div32Imm (dst : Reg) (imm : BitVec 32)
  /-- `div32 rD, rS`, opcode 0x3c (rule R163). -/
  | div32Reg (dst src : Reg)
  /-- `div64 rD, imm`, opcode 0x37 (rule R164). -/
  | div64Imm (dst : Reg) (imm : BitVec 32)
  /-- `div64 rD, rS`, opcode 0x3f (rule R165). -/
  | div64Reg (dst src : Reg)
  /-- `or32 rD, imm`, opcode 0x44 (rule R166). -/
  | or32Imm (dst : Reg) (imm : BitVec 32)
  /-- `or32 rD, rS`, opcode 0x4c (rule R167). -/
  | or32Reg (dst src : Reg)
  /-- `or64 rD, imm`, opcode 0x47 (rule R168). -/
  | or64Imm (dst : Reg) (imm : BitVec 32)
  /-- `or64 rD, rS`, opcode 0x4f (rule R169). -/
  | or64Reg (dst src : Reg)
  /-- `and32 rD, imm`, opcode 0x54 (rule R170). -/
  | and32Imm (dst : Reg) (imm : BitVec 32)
  /-- `and32 rD, rS`, opcode 0x5c (rule R171). -/
  | and32Reg (dst src : Reg)
  /-- `and64 rD, imm`, opcode 0x57 (rule R172). -/
  | and64Imm (dst : Reg) (imm : BitVec 32)
  /-- `and64 rD, rS`, opcode 0x5f (rule R173). -/
  | and64Reg (dst src : Reg)
  /-- `lsh32 rD, imm`, opcode 0x64 (rule R174). -/
  | lsh32Imm (dst : Reg) (imm : BitVec 32)
  /-- `lsh32 rD, rS`, opcode 0x6c (rule R175). -/
  | lsh32Reg (dst src : Reg)
  /-- `lsh64 rD, imm`, opcode 0x67 (rule R176). -/
  | lsh64Imm (dst : Reg) (imm : BitVec 32)
  /-- `lsh64 rD, rS`, opcode 0x6f (rule R177). -/
  | lsh64Reg (dst src : Reg)
  /-- `rsh32 rD, imm`, opcode 0x74 (rule R178). -/
  | rsh32Imm (dst : Reg) (imm : BitVec 32)
  /-- `rsh32 rD, rS`, opcode 0x7c (rule R179). -/
  | rsh32Reg (dst src : Reg)
  /-- `rsh64 rD, imm`, opcode 0x77 (rule R180). -/
  | rsh64Imm (dst : Reg) (imm : BitVec 32)
  /-- `rsh64 rD, rS`, opcode 0x7f (rule R181). -/
  | rsh64Reg (dst src : Reg)
  /-- `neg32 rD`, opcode 0x84 (rule R182). -/
  | neg32 (dst : Reg)
  /-- `neg64 rD`, opcode 0x87 (rule R183). -/
  | neg64 (dst : Reg)
  /-- `mod32 rD, imm`, opcode 0x94 (rule R184). -/
  | mod32Imm (dst : Reg) (imm : BitVec 32)
  /-- `mod32 rD, rS`, opcode 0x9c (rule R185). -/
  | mod32Reg (dst src : Reg)
  /-- `mod64 rD, imm`, opcode 0x97 (rule R186). -/
  | mod64Imm (dst : Reg) (imm : BitVec 32)
  /-- `mod64 rD, rS`, opcode 0x9f (rule R187). -/
  | mod64Reg (dst src : Reg)
  /-- `xor32 rD, imm`, opcode 0xa4 (rule R188). -/
  | xor32Imm (dst : Reg) (imm : BitVec 32)
  /-- `xor32 rD, rS`, opcode 0xac (rule R189). -/
  | xor32Reg (dst src : Reg)
  /-- `xor64 rD, imm`, opcode 0xa7 (rule R190). -/
  | xor64Imm (dst : Reg) (imm : BitVec 32)
  /-- `xor64 rD, rS`, opcode 0xaf (rule R191). -/
  | xor64Reg (dst src : Reg)
  /-- `mov32 rD, imm`, opcode 0xb4 (rule R192). -/
  | mov32Imm (dst : Reg) (imm : BitVec 32)
  /-- `mov32 rD, rS`, opcode 0xbc (rule R193). -/
  | mov32Reg (dst src : Reg)
  /-- `mov64 rD, imm`, opcode 0xb7 (rule R194). -/
  | mov64Imm (dst : Reg) (imm : BitVec 32)
  /-- `mov64 rD, rS`, opcode 0xbf (rule R195). -/
  | mov64Reg (dst src : Reg)
  /-- `arsh32 rD, imm`, opcode 0xc4 (rule R196). -/
  | arsh32Imm (dst : Reg) (imm : BitVec 32)
  /-- `arsh32 rD, rS`, opcode 0xcc (rule R197). -/
  | arsh32Reg (dst src : Reg)
  /-- `arsh64 rD, imm`, opcode 0xc7 (rule R198). -/
  | arsh64Imm (dst : Reg) (imm : BitVec 32)
  /-- `arsh64 rD, rS`, opcode 0xcf (rule R199). -/
  | arsh64Reg (dst src : Reg)
  /-- `le16 rD`, opcode 0xd4 (rule R201). -/
  | le16 (dst : Reg)
  /-- `le32 rD`, opcode 0xd4 (rule R202). -/
  | le32 (dst : Reg)
  /-- `le64 rD`, opcode 0xd4 (rule R203). -/
  | le64 (dst : Reg)
  /-- `be16 rD`, opcode 0xdc (rule R204). -/
  | be16 (dst : Reg)
  /-- `be32 rD`, opcode 0xdc (rule R205). -/
  | be32 (dst : Reg)
  /-- `be64 rD`, opcode 0xdc (rule R206). -/
  | be64 (dst : Reg)
  /-- `ja +off`, opcode 0x05 (rule R215). -/
  | ja (off : BitVec 16)
  /-- `jeq64 rD, imm, +off`, opcode 0x15 (rule R216). -/
  | jeq64Imm (dst : Reg) (imm : BitVec 32) (off : BitVec 16)
  /-- `jeq64 rD, rS, +off`, opcode 0x1d (rule R217). -/
  | jeq64Reg (dst src : Reg) (off : BitVec 16)
  /-- `jeq32 rD, imm, +off`, opcode 0x16 (rule R218). -/
  | jeq32Imm (dst : Reg) (imm : BitVec 32) (off : BitVec 16)
  /-- `jeq32 rD, rS, +off`, opcode 0x1e (rule R219). -/
  | jeq32Reg (dst src : Reg) (off : BitVec 16)
  /-- `jgt64 rD, imm, +off`, opcode 0x25 (rule R220). -/
  | jgt64Imm (dst : Reg) (imm : BitVec 32) (off : BitVec 16)
  /-- `jgt64 rD, rS, +off`, opcode 0x2d (rule R221). -/
  | jgt64Reg (dst src : Reg) (off : BitVec 16)
  /-- `jgt32 rD, imm, +off`, opcode 0x26 (rule R222). -/
  | jgt32Imm (dst : Reg) (imm : BitVec 32) (off : BitVec 16)
  /-- `jgt32 rD, rS, +off`, opcode 0x2e (rule R223). -/
  | jgt32Reg (dst src : Reg) (off : BitVec 16)
  /-- `jge64 rD, imm, +off`, opcode 0x35 (rule R224). -/
  | jge64Imm (dst : Reg) (imm : BitVec 32) (off : BitVec 16)
  /-- `jge64 rD, rS, +off`, opcode 0x3d (rule R225). -/
  | jge64Reg (dst src : Reg) (off : BitVec 16)
  /-- `jge32 rD, imm, +off`, opcode 0x36 (rule R226). -/
  | jge32Imm (dst : Reg) (imm : BitVec 32) (off : BitVec 16)
  /-- `jge32 rD, rS, +off`, opcode 0x3e (rule R227). -/
  | jge32Reg (dst src : Reg) (off : BitVec 16)
  /-- `jset64 rD, imm, +off`, opcode 0x45 (rule R228). -/
  | jset64Imm (dst : Reg) (imm : BitVec 32) (off : BitVec 16)
  /-- `jset64 rD, rS, +off`, opcode 0x4d (rule R229). -/
  | jset64Reg (dst src : Reg) (off : BitVec 16)
  /-- `jset32 rD, imm, +off`, opcode 0x46 (rule R230). -/
  | jset32Imm (dst : Reg) (imm : BitVec 32) (off : BitVec 16)
  /-- `jset32 rD, rS, +off`, opcode 0x4e (rule R231). -/
  | jset32Reg (dst src : Reg) (off : BitVec 16)
  /-- `jne64 rD, imm, +off`, opcode 0x55 (rule R232). -/
  | jne64Imm (dst : Reg) (imm : BitVec 32) (off : BitVec 16)
  /-- `jne64 rD, rS, +off`, opcode 0x5d (rule R233). -/
  | jne64Reg (dst src : Reg) (off : BitVec 16)
  /-- `jne32 rD, imm, +off`, opcode 0x56 (rule R234). -/
  | jne32Imm (dst : Reg) (imm : BitVec 32) (off : BitVec 16)
  /-- `jne32 rD, rS, +off`, opcode 0x5e (rule R235). -/
  | jne32Reg (dst src : Reg) (off : BitVec 16)
  /-- `jsgt64 rD, imm, +off`, opcode 0x65 (rule R236). -/
  | jsgt64Imm (dst : Reg) (imm : BitVec 32) (off : BitVec 16)
  /-- `jsgt64 rD, rS, +off`, opcode 0x6d (rule R237). -/
  | jsgt64Reg (dst src : Reg) (off : BitVec 16)
  /-- `jsgt32 rD, imm, +off`, opcode 0x66 (rule R238). -/
  | jsgt32Imm (dst : Reg) (imm : BitVec 32) (off : BitVec 16)
  /-- `jsgt32 rD, rS, +off`, opcode 0x6e (rule R239). -/
  | jsgt32Reg (dst src : Reg) (off : BitVec 16)
  /-- `jsge64 rD, imm, +off`, opcode 0x75 (rule R240). -/
  | jsge64Imm (dst : Reg) (imm : BitVec 32) (off : BitVec 16)
  /-- `jsge64 rD, rS, +off`, opcode 0x7d (rule R241). -/
  | jsge64Reg (dst src : Reg) (off : BitVec 16)
  /-- `jsge32 rD, imm, +off`, opcode 0x76 (rule R242). -/
  | jsge32Imm (dst : Reg) (imm : BitVec 32) (off : BitVec 16)
  /-- `jsge32 rD, rS, +off`, opcode 0x7e (rule R243). -/
  | jsge32Reg (dst src : Reg) (off : BitVec 16)
  /-- `jlt64 rD, imm, +off`, opcode 0xa5 (rule R244). -/
  | jlt64Imm (dst : Reg) (imm : BitVec 32) (off : BitVec 16)
  /-- `jlt64 rD, rS, +off`, opcode 0xad (rule R245). -/
  | jlt64Reg (dst src : Reg) (off : BitVec 16)
  /-- `jlt32 rD, imm, +off`, opcode 0xa6 (rule R246). -/
  | jlt32Imm (dst : Reg) (imm : BitVec 32) (off : BitVec 16)
  /-- `jlt32 rD, rS, +off`, opcode 0xae (rule R247). -/
  | jlt32Reg (dst src : Reg) (off : BitVec 16)
  /-- `jle64 rD, imm, +off`, opcode 0xb5 (rule R248). -/
  | jle64Imm (dst : Reg) (imm : BitVec 32) (off : BitVec 16)
  /-- `jle64 rD, rS, +off`, opcode 0xbd (rule R249). -/
  | jle64Reg (dst src : Reg) (off : BitVec 16)
  /-- `jle32 rD, imm, +off`, opcode 0xb6 (rule R250). -/
  | jle32Imm (dst : Reg) (imm : BitVec 32) (off : BitVec 16)
  /-- `jle32 rD, rS, +off`, opcode 0xbe (rule R251). -/
  | jle32Reg (dst src : Reg) (off : BitVec 16)
  /-- `jslt64 rD, imm, +off`, opcode 0xc5 (rule R252). -/
  | jslt64Imm (dst : Reg) (imm : BitVec 32) (off : BitVec 16)
  /-- `jslt64 rD, rS, +off`, opcode 0xcd (rule R253). -/
  | jslt64Reg (dst src : Reg) (off : BitVec 16)
  /-- `jslt32 rD, imm, +off`, opcode 0xc6 (rule R254). -/
  | jslt32Imm (dst : Reg) (imm : BitVec 32) (off : BitVec 16)
  /-- `jslt32 rD, rS, +off`, opcode 0xce (rule R255). -/
  | jslt32Reg (dst src : Reg) (off : BitVec 16)
  /-- `jsle64 rD, imm, +off`, opcode 0xd5 (rule R256). -/
  | jsle64Imm (dst : Reg) (imm : BitVec 32) (off : BitVec 16)
  /-- `jsle64 rD, rS, +off`, opcode 0xdd (rule R257). -/
  | jsle64Reg (dst src : Reg) (off : BitVec 16)
  /-- `jsle32 rD, imm, +off`, opcode 0xd6 (rule R258). -/
  | jsle32Imm (dst : Reg) (imm : BitVec 32) (off : BitVec 16)
  /-- `jsle32 rD, rS, +off`, opcode 0xde (rule R259). -/
  | jsle32Reg (dst src : Reg) (off : BitVec 16)
  /-- `call_helper imm`, opcode 0x85 (rule R261). -/
  | callHelper (imm : BitVec 32)
  /-- `call_local +off`, opcode 0x85 (rule R264). -/
  | callLocal (off : BitVec 16) (imm : BitVec 32)
  /-- `call_platform imm`, opcode 0x85 (rule R263). -/
  | callPlatform (imm : BitVec 32)
  /-- `exit`, opcode 0x95 (rule R266). -/
  | exit
  /-- `ldxw rD, [rS+off]`, opcode 0x61 (rule R272). -/
  | ldxw (dst src : Reg) (off : BitVec 16)
  /-- `ldxh rD, [rS+off]`, opcode 0x69 (rule R273). -/
  | ldxh (dst src : Reg) (off : BitVec 16)
  /-- `ldxb rD, [rS+off]`, opcode 0x71 (rule R274). -/
  | ldxb (dst src : Reg) (off : BitVec 16)
  /-- `ldxdw rD, [rS+off]`, opcode 0x79 (rule R275). -/
  | ldxdw (dst src : Reg) (off : BitVec 16)
  /-- `stw [rD+off], imm`, opcode 0x62 (rule R276). -/
  | stw (dst : Reg) (off : BitVec 16) (imm : BitVec 32)
  /-- `sth [rD+off], imm`, opcode 0x6a (rule R277). -/
  | sth (dst : Reg) (off : BitVec 16) (imm : BitVec 32)
  /-- `stb [rD+off], imm`, opcode 0x72 (rule R278). -/
  | stb (dst : Reg) (off : BitVec 16) (imm : BitVec 32)
  /-- `stdw [rD+off], imm`, opcode 0x7a (rule R279). -/
  | stdw (dst : Reg) (off : BitVec 16) (imm : BitVec 32)
  /-- `stxw [rD+off], rS`, opcode 0x63 (rule R280). -/
  | stxw (dst src : Reg) (off : BitVec 16)
  /-- `stxh [rD+off], rS`, opcode 0x6b (rule R281). -/
  | stxh (dst src : Reg) (off : BitVec 16)
  /-- `stxb [rD+off], rS`, opcode 0x73 (rule R282). -/
  | stxb (dst src : Reg) (off : BitVec 16)
  /-- `stxdw [rD+off], rS`, opcode 0x7b (rule R283). -/
  | stxdw (dst src : Reg) (off : BitVec 16)
  /-- `atomic_add32 [rD+off], rS`, opcode 0xc3 (rule R294). -/
  | atomicAdd32 (dst src : Reg) (off : BitVec 16)
  /-- `atomic_fetch_add32 [rD+off], rS`, opcode 0xc3 (rule R295). -/
  | atomicFetchAdd32 (dst src : Reg) (off : BitVec 16)
  /-- `atomic_or32 [rD+off], rS`, opcode 0xc3 (rule R296). -/
  | atomicOr32 (dst src : Reg) (off : BitVec 16)
  /-- `atomic_fetch_or32 [rD+off], rS`, opcode 0xc3 (rule R297). -/
  | atomicFetchOr32 (dst src : Reg) (off : BitVec 16)
  /-- `atomic_and32 [rD+off], rS`, opcode 0xc3 (rule R298). -/
  | atomicAnd32 (dst src : Reg) (off : BitVec 16)
  /-- `atomic_fetch_and32 [rD+off], rS`, opcode 0xc3 (rule R299). -/
  | atomicFetchAnd32 (dst src : Reg) (off : BitVec 16)
  /-- `atomic_xor32 [rD+off], rS`, opcode 0xc3 (rule R300). -/
  | atomicXor32 (dst src : Reg) (off : BitVec 16)
  /-- `atomic_fetch_xor32 [rD+off], rS`, opcode 0xc3 (rule R301). -/
  | atomicFetchXor32 (dst src : Reg) (off : BitVec 16)
  /-- `atomic_xchg32 [rD+off], rS`, opcode 0xc3 (rule R302). -/
  | atomicXchg32 (dst src : Reg) (off : BitVec 16)
  /-- `atomic_cmpxchg32 [rD+off], rS`, opcode 0xc3 (rule R303). -/
  | atomicCmpxchg32 (dst src : Reg) (off : BitVec 16)
  /-- `atomic_add64 [rD+off], rS`, opcode 0xdb (rule R304). -/
  | atomicAdd64 (dst src : Reg) (off : BitVec 16)
  /-- `atomic_fetch_add64 [rD+off], rS`, opcode 0xdb (rule R305). -/
  | atomicFetchAdd64 (dst src : Reg) (off : BitVec 16)
  /-- `atomic_or64 [rD+off], rS`, opcode 0xdb (rule R306). -/
  | atomicOr64 (dst src : Reg) (off : BitVec 16)
  /-- `atomic_fetch_or64 [rD+off], rS`, opcode 0xdb (rule R307). -/
  | atomicFetchOr64 (dst src : Reg) (off : BitVec 16)
  /-- `atomic_and64 [rD+off], rS`, opcode 0xdb (rule R308). -/
  | atomicAnd64 (dst src : Reg) (off : BitVec 16)
  /-- `atomic_fetch_and64 [rD+off], rS`, opcode 0xdb (rule R309). -/
  | atomicFetchAnd64 (dst src : Reg) (off : BitVec 16)
  /-- `atomic_xor64 [rD+off], rS`, opcode 0xdb (rule R310). -/
  | atomicXor64 (dst src : Reg) (off : BitVec 16)
  /-- `atomic_fetch_xor64 [rD+off], rS`, opcode 0xdb (rule R311). -/
  | atomicFetchXor64 (dst src : Reg) (off : BitVec 16)
  /-- `atomic_xchg64 [rD+off], rS`, opcode 0xdb (rule R312). -/
  | atomicXchg64 (dst src : Reg) (off : BitVec 16)
  /-- `atomic_cmpxchg64 [rD+off], rS`, opcode 0xdb (rule R313). -/
  | atomicCmpxchg64 (dst src : Reg) (off : BitVec 16)
  /-- `lddw rD, imm64`, opcode 0x18 (rule R321). -/
  | lddw (dst : Reg) (imm nextImm : BitVec 32)
  /-- `ld_map_fd rD, imm`, opcode 0x18 (rule R322). -/
  | ldMapFd (dst : Reg) (imm : BitVec 32)
  /-- `ld_map_fd_value rD, imm, next_imm`, opcode 0x18 (rule R323). -/
  | ldMapFdValue (dst : Reg) (imm nextImm : BitVec 32)
  /-- `ld_var_addr rD, imm`, opcode 0x18 (rule R324). -/
  | ldVarAddr (dst : Reg) (imm : BitVec 32)
  /-- `ld_code_addr rD, imm`, opcode 0x18 (rule R325). -/
  | ldCodeAddr (dst : Reg) (imm : BitVec 32)
  /-- `ld_map_idx rD, imm`, opcode 0x18 (rule R326). -/
  | ldMapIdx (dst : Reg) (imm : BitVec 32)
  /-- `ld_map_idx_value rD, imm, next_imm`, opcode 0x18 (rule R327). -/
  | ldMapIdxValue (dst : Reg) (imm nextImm : BitVec 32)
  /-- `ldabsw (refused)`, opcode 0x20 (rule R336). -/
  | ldabsw (rest : BitVec 56)
  /-- `ldabsh (refused)`, opcode 0x28 (rule R337). -/
  | ldabsh (rest : BitVec 56)
  /-- `ldabsb (refused)`, opcode 0x30 (rule R338). -/
  | ldabsb (rest : BitVec 56)
  /-- `ldabsdw (refused)`, opcode 0x38 (rule R339). -/
  | ldabsdw (rest : BitVec 56)
  /-- `ldindw (refused)`, opcode 0x40 (rule R340). -/
  | ldindw (rest : BitVec 56)
  /-- `ldindh (refused)`, opcode 0x48 (rule R341). -/
  | ldindh (rest : BitVec 56)
  /-- `ldindb (refused)`, opcode 0x50 (rule R342). -/
  | ldindb (rest : BitVec 56)
  /-- `ldinddw (refused)`, opcode 0x58 (rule R343). -/
  | ldinddw (rest : BitVec 56)
  deriving DecidableEq, Repr

end Sys2Proof
end

