-- ==== Sys2Proof/WellFormed.lean ====
section
/-! DEFINITION. Sys2Proof/WellFormed.lean: which instructions are well formed. The types already keep register
numbers at most 10 (rule R120) and immediates and offsets in their widths; what remains is rule R33 (register 10 is in
no written position) and rule R264 (the field a BPF-local call does not use is zero). -/

namespace Sys2Proof

/-- The register may stand in a written position: it is not the read-only frame pointer (rules R33, R124). -/
def writable (r : Reg) : Bool := r != 10

/-- The field of a BPF-local call that `LOCAL_CALL_FIELD` leaves unused is zero (rule R264). -/
def localCallUnusedZero (lcf : LocalCallField) (off : BitVec 16) (imm : BitVec 32) : Bool :=
  match lcf with
  | .offset => imm == 0
  | .imm => off == 0

/-- Well-formed under a choice of `LOCAL_CALL_FIELD`: the instruction has an encoding the decoder accepts
(rules R33, R119, R124, R264). -/
def Instr.wf (lcf : LocalCallField) : Instr → Bool
  | .add32Imm dst _ => writable dst
  | .add32Reg dst _ => writable dst
  | .add64Imm dst _ => writable dst
  | .add64Reg dst _ => writable dst
  | .sub32Imm dst _ => writable dst
  | .sub32Reg dst _ => writable dst
  | .sub64Imm dst _ => writable dst
  | .sub64Reg dst _ => writable dst
  | .mul32Imm dst _ => writable dst
  | .mul32Reg dst _ => writable dst
  | .mul64Imm dst _ => writable dst
  | .mul64Reg dst _ => writable dst
  | .div32Imm dst _ => writable dst
  | .div32Reg dst _ => writable dst
  | .div64Imm dst _ => writable dst
  | .div64Reg dst _ => writable dst
  | .or32Imm dst _ => writable dst
  | .or32Reg dst _ => writable dst
  | .or64Imm dst _ => writable dst
  | .or64Reg dst _ => writable dst
  | .and32Imm dst _ => writable dst
  | .and32Reg dst _ => writable dst
  | .and64Imm dst _ => writable dst
  | .and64Reg dst _ => writable dst
  | .lsh32Imm dst _ => writable dst
  | .lsh32Reg dst _ => writable dst
  | .lsh64Imm dst _ => writable dst
  | .lsh64Reg dst _ => writable dst
  | .rsh32Imm dst _ => writable dst
  | .rsh32Reg dst _ => writable dst
  | .rsh64Imm dst _ => writable dst
  | .rsh64Reg dst _ => writable dst
  | .neg32 dst => writable dst
  | .neg64 dst => writable dst
  | .mod32Imm dst _ => writable dst
  | .mod32Reg dst _ => writable dst
  | .mod64Imm dst _ => writable dst
  | .mod64Reg dst _ => writable dst
  | .xor32Imm dst _ => writable dst
  | .xor32Reg dst _ => writable dst
  | .xor64Imm dst _ => writable dst
  | .xor64Reg dst _ => writable dst
  | .mov32Imm dst _ => writable dst
  | .mov32Reg dst _ => writable dst
  | .mov64Imm dst _ => writable dst
  | .mov64Reg dst _ => writable dst
  | .arsh32Imm dst _ => writable dst
  | .arsh32Reg dst _ => writable dst
  | .arsh64Imm dst _ => writable dst
  | .arsh64Reg dst _ => writable dst
  | .le16 dst => writable dst
  | .le32 dst => writable dst
  | .le64 dst => writable dst
  | .be16 dst => writable dst
  | .be32 dst => writable dst
  | .be64 dst => writable dst
  | .ja _ => true
  | .jeq64Imm _ _ _ => true
  | .jeq64Reg _ _ _ => true
  | .jeq32Imm _ _ _ => true
  | .jeq32Reg _ _ _ => true
  | .jgt64Imm _ _ _ => true
  | .jgt64Reg _ _ _ => true
  | .jgt32Imm _ _ _ => true
  | .jgt32Reg _ _ _ => true
  | .jge64Imm _ _ _ => true
  | .jge64Reg _ _ _ => true
  | .jge32Imm _ _ _ => true
  | .jge32Reg _ _ _ => true
  | .jset64Imm _ _ _ => true
  | .jset64Reg _ _ _ => true
  | .jset32Imm _ _ _ => true
  | .jset32Reg _ _ _ => true
  | .jne64Imm _ _ _ => true
  | .jne64Reg _ _ _ => true
  | .jne32Imm _ _ _ => true
  | .jne32Reg _ _ _ => true
  | .jsgt64Imm _ _ _ => true
  | .jsgt64Reg _ _ _ => true
  | .jsgt32Imm _ _ _ => true
  | .jsgt32Reg _ _ _ => true
  | .jsge64Imm _ _ _ => true
  | .jsge64Reg _ _ _ => true
  | .jsge32Imm _ _ _ => true
  | .jsge32Reg _ _ _ => true
  | .jlt64Imm _ _ _ => true
  | .jlt64Reg _ _ _ => true
  | .jlt32Imm _ _ _ => true
  | .jlt32Reg _ _ _ => true
  | .jle64Imm _ _ _ => true
  | .jle64Reg _ _ _ => true
  | .jle32Imm _ _ _ => true
  | .jle32Reg _ _ _ => true
  | .jslt64Imm _ _ _ => true
  | .jslt64Reg _ _ _ => true
  | .jslt32Imm _ _ _ => true
  | .jslt32Reg _ _ _ => true
  | .jsle64Imm _ _ _ => true
  | .jsle64Reg _ _ _ => true
  | .jsle32Imm _ _ _ => true
  | .jsle32Reg _ _ _ => true
  | .callHelper _ => true
  | .callLocal off imm => localCallUnusedZero lcf off imm
  | .callPlatform _ => true
  | .exit => true
  | .ldxw dst _ _ => writable dst
  | .ldxh dst _ _ => writable dst
  | .ldxb dst _ _ => writable dst
  | .ldxdw dst _ _ => writable dst
  | .stw _ _ _ => true
  | .sth _ _ _ => true
  | .stb _ _ _ => true
  | .stdw _ _ _ => true
  | .stxw _ _ _ => true
  | .stxh _ _ _ => true
  | .stxb _ _ _ => true
  | .stxdw _ _ _ => true
  | .atomicAdd32 _ _ _ => true
  | .atomicFetchAdd32 _ src _ => writable src
  | .atomicOr32 _ _ _ => true
  | .atomicFetchOr32 _ src _ => writable src
  | .atomicAnd32 _ _ _ => true
  | .atomicFetchAnd32 _ src _ => writable src
  | .atomicXor32 _ _ _ => true
  | .atomicFetchXor32 _ src _ => writable src
  | .atomicXchg32 _ src _ => writable src
  | .atomicCmpxchg32 _ _ _ => true
  | .atomicAdd64 _ _ _ => true
  | .atomicFetchAdd64 _ src _ => writable src
  | .atomicOr64 _ _ _ => true
  | .atomicFetchOr64 _ src _ => writable src
  | .atomicAnd64 _ _ _ => true
  | .atomicFetchAnd64 _ src _ => writable src
  | .atomicXor64 _ _ _ => true
  | .atomicFetchXor64 _ src _ => writable src
  | .atomicXchg64 _ src _ => writable src
  | .atomicCmpxchg64 _ _ _ => true
  | .lddw dst _ _ => writable dst
  | .ldMapFd dst _ => writable dst
  | .ldMapFdValue dst _ _ => writable dst
  | .ldVarAddr dst _ => writable dst
  | .ldCodeAddr dst _ => writable dst
  | .ldMapIdx dst _ => writable dst
  | .ldMapIdxValue dst _ _ => writable dst
  | .ldabsw _ => true
  | .ldabsh _ => true
  | .ldabsb _ => true
  | .ldabsdw _ => true
  | .ldindw _ => true
  | .ldindh _ => true
  | .ldindb _ => true
  | .ldinddw _ => true

end Sys2Proof
end

