-- ==== Sys2Proof/Decode.lean ====
section
/-! DEFINITION. Sys2Proof/Decode.lean: the canonical word and its fields (rule R91), the program image in both byte
orders (rules R92, R93), the decode procedure (rule R116), and the encoder. -/

namespace Sys2Proof

/-! ## The canonical word -/

/-- The five fields of a slot (rule R91). -/
structure Fields where
  opcode : BitVec 8
  dst : BitVec 4
  src : BitVec 4
  off : BitVec 16
  imm : BitVec 32
  deriving DecidableEq, Repr

/-- The fields at their places in the canonical word (rule R91). -/
def Fields.ofWord (w : Word) : Fields :=
  { opcode := w.extractLsb' 0 8, dst := w.extractLsb' 8 4, src := w.extractLsb' 12 4,
    off := w.extractLsb' 16 16, imm := w.extractLsb' 32 32 }

/-- The canonical word with these fields (rule R91). -/
def slotWord (opcode : BitVec 8) (dst src : BitVec 4) (off : BitVec 16) (imm : BitVec 32) : Word :=
  imm ++ off ++ src ++ dst ++ opcode

/-! ## The program image -/

/-- The eight bytes of a slot in increasing address order (rules R92, R93): `offset` and `imm` in the byte order,
the register byte with `src_reg` in its high half in little-endian BPF and in its low half in big-endian BPF. -/
def slotBytes (bo : ByteOrder) (w : Word) : List Byte :=
  match bo with
  | .le => [w.extractLsb' 0 8, w.extractLsb' 8 8, w.extractLsb' 16 8, w.extractLsb' 24 8,
            w.extractLsb' 32 8, w.extractLsb' 40 8, w.extractLsb' 48 8, w.extractLsb' 56 8]
  | .be => [w.extractLsb' 0 8, w.extractLsb' 8 4 ++ w.extractLsb' 12 4, w.extractLsb' 24 8, w.extractLsb' 16 8,
            w.extractLsb' 56 8, w.extractLsb' 48 8, w.extractLsb' 40 8, w.extractLsb' 32 8]

/-- The canonical word of eight bytes (rules R91, R93). -/
def wordOfBytes (bo : ByteOrder) (b0 b1 b2 b3 b4 b5 b6 b7 : Byte) : Word :=
  match bo with
  | .le => slotWord b0 (b1.extractLsb' 0 4) (b1.extractLsb' 4 4) (b3 ++ b2) (b7 ++ b6 ++ b5 ++ b4)
  | .be => slotWord b0 (b1.extractLsb' 4 4) (b1.extractLsb' 0 4) (b2 ++ b3) (b4 ++ b5 ++ b6 ++ b7)

/-- The first slot of a byte sequence and the bytes after it; none when fewer than eight bytes are left. -/
def takeSlot (bo : ByteOrder) : List Byte → Option (Word × List Byte)
  | b0 :: b1 :: b2 :: b3 :: b4 :: b5 :: b6 :: b7 :: rest => some (wordOfBytes bo b0 b1 b2 b3 b4 b5 b6 b7, rest)
  | _ => none

/-- A program image as canonical words (rule R61: decoded once, at load); none when it is not a whole number of
slots (rule R382). -/
def imageWords (bo : ByteOrder) : List Byte → Option (List Word)
  | [] => some []
  | b0 :: b1 :: b2 :: b3 :: b4 :: b5 :: b6 :: b7 :: rest =>
      (imageWords bo rest).map (fun ws => wordOfBytes bo b0 b1 b2 b3 b4 b5 b6 b7 :: ws)
  | _ => none

/-! ## Selecting the row -/

/-- Why a word is not an instruction of this version (rule R352, (a) to (f)); `truncated` is for a byte sequence
that ends inside a slot. -/
inductive DecodeError where
  /-- (a) the opcode byte is not defined (rule R118). -/
  | undefinedOpcode
  /-- (a) opcode 0x00, the second slot of a wide instruction (rule R117). -/
  | secondSlot
  /-- (b) a shared opcode with an undefined selector (rule R121). -/
  | undefinedSelector
  /-- (c) a field the instruction does not use is not zero (rule R119). -/
  | unusedFieldNotZero
  /-- (d) a register field in use holds 11 to 15 (rule R120). -/
  | registerNumber
  /-- (e) register 10 in a written position (rule R124). -/
  | writesFramePointer
  /-- (f) opcode 0x18 with no slot after it (rule R116 step 5). -/
  | missingSecondSlot
  /-- (c) a field of the second slot that must be zero is not (rules R97, R119). -/
  | secondSlotNotZero
  | truncated
  deriving DecidableEq, Repr

/-- The formats of rule R109, each with the constructor the selected row stands for. `atomicFetch` are the atomic
forms that write `src_reg`; `lddw2` uses `next_imm`, `lddw1` does not. -/
inductive Form where
  | aluK (mk : Reg → BitVec 32 → Instr)
  | aluX (mk : Reg → Reg → Instr)
  | aluUn (mk : Reg → Instr)
  | swap (mk : Reg → Instr)
  | ja (mk : BitVec 16 → Instr)
  | jccK (mk : Reg → BitVec 32 → BitVec 16 → Instr)
  | jccX (mk : Reg → Reg → BitVec 16 → Instr)
  | callHelper (mk : BitVec 32 → Instr)
  | callLocal (mk : BitVec 16 → BitVec 32 → Instr)
  | exit (mk : Instr)
  | ldx (mk : Reg → Reg → BitVec 16 → Instr)
  | st (mk : Reg → BitVec 16 → BitVec 32 → Instr)
  | stx (mk : Reg → Reg → BitVec 16 → Instr)
  | atomic (mk : Reg → Reg → BitVec 16 → Instr)
  | atomicFetch (mk : Reg → Reg → BitVec 16 → Instr)
  | lddw2 (mk : Reg → BitVec 32 → BitVec 32 → Instr)
  | lddw1 (mk : Reg → BitVec 32 → Instr)
  | legacy (mk : BitVec 56 → Instr)

/-- Opcode 0x85, selected by `src_reg` (rules R103, R121). -/
def callForm (selector : Nat) : Except DecodeError Form :=
  match selector with
  | 0x00 => .ok (.callHelper .callHelper)
  | 0x01 => .ok (.callLocal .callLocal)
  | 0x02 => .ok (.callHelper .callPlatform)
  | _ => .error .undefinedSelector

/-- Opcode 0x18, selected by the subtype in `src_reg` (rules R106, R121). -/
def immForm (selector : Nat) : Except DecodeError Form :=
  match selector with
  | 0x00 => .ok (.lddw2 .lddw)
  | 0x01 => .ok (.lddw1 .ldMapFd)
  | 0x02 => .ok (.lddw2 .ldMapFdValue)
  | 0x03 => .ok (.lddw1 .ldVarAddr)
  | 0x04 => .ok (.lddw1 .ldCodeAddr)
  | 0x05 => .ok (.lddw1 .ldMapIdx)
  | 0x06 => .ok (.lddw2 .ldMapIdxValue)
  | _ => .error .undefinedSelector

/-- Opcode 0xd4, selected by `imm` (rules R102, R121). -/
def leForm (selector : Nat) : Except DecodeError Form :=
  match selector with
  | 0x10 => .ok (.swap .le16)
  | 0x20 => .ok (.swap .le32)
  | 0x40 => .ok (.swap .le64)
  | _ => .error .undefinedSelector

/-- Opcode 0xdc, selected by `imm` (rules R102, R121). -/
def beForm (selector : Nat) : Except DecodeError Form :=
  match selector with
  | 0x10 => .ok (.swap .be16)
  | 0x20 => .ok (.swap .be32)
  | 0x40 => .ok (.swap .be64)
  | _ => .error .undefinedSelector

/-- Opcode 0xc3, selected by `imm` (rules R105, R121). -/
def atomic32Form (selector : Nat) : Except DecodeError Form :=
  match selector with
  | 0x00 => .ok (.atomic .atomicAdd32)
  | 0x01 => .ok (.atomicFetch .atomicFetchAdd32)
  | 0x40 => .ok (.atomic .atomicOr32)
  | 0x41 => .ok (.atomicFetch .atomicFetchOr32)
  | 0x50 => .ok (.atomic .atomicAnd32)
  | 0x51 => .ok (.atomicFetch .atomicFetchAnd32)
  | 0xa0 => .ok (.atomic .atomicXor32)
  | 0xa1 => .ok (.atomicFetch .atomicFetchXor32)
  | 0xe1 => .ok (.atomicFetch .atomicXchg32)
  | 0xf1 => .ok (.atomic .atomicCmpxchg32)
  | _ => .error .undefinedSelector

/-- Opcode 0xdb, selected by `imm` (rules R105, R121). -/
def atomic64Form (selector : Nat) : Except DecodeError Form :=
  match selector with
  | 0x00 => .ok (.atomic .atomicAdd64)
  | 0x01 => .ok (.atomicFetch .atomicFetchAdd64)
  | 0x40 => .ok (.atomic .atomicOr64)
  | 0x41 => .ok (.atomicFetch .atomicFetchOr64)
  | 0x50 => .ok (.atomic .atomicAnd64)
  | 0x51 => .ok (.atomicFetch .atomicFetchAnd64)
  | 0xa0 => .ok (.atomic .atomicXor64)
  | 0xa1 => .ok (.atomicFetch .atomicFetchXor64)
  | 0xe1 => .ok (.atomicFetch .atomicXchg64)
  | 0xf1 => .ok (.atomic .atomicCmpxchg64)
  | _ => .error .undefinedSelector

/-- The opcode map (rule R110): every defined value of the opcode byte, in the order of its value; shared opcodes
are selected by another field (rule R121), every other byte is undefined (rule R118). -/
def formOf (f : Fields) : Except DecodeError Form :=
  match f.opcode.toNat with
  | 0x00 => .error .secondSlot
  | 0x04 => .ok (.aluK .add32Imm)
  | 0x05 => .ok (.ja .ja)
  | 0x07 => .ok (.aluK .add64Imm)
  | 0x0c => .ok (.aluX .add32Reg)
  | 0x0f => .ok (.aluX .add64Reg)
  | 0x14 => .ok (.aluK .sub32Imm)
  | 0x15 => .ok (.jccK .jeq64Imm)
  | 0x16 => .ok (.jccK .jeq32Imm)
  | 0x17 => .ok (.aluK .sub64Imm)
  | 0x18 => immForm f.src.toNat
  | 0x1c => .ok (.aluX .sub32Reg)
  | 0x1d => .ok (.jccX .jeq64Reg)
  | 0x1e => .ok (.jccX .jeq32Reg)
  | 0x1f => .ok (.aluX .sub64Reg)
  | 0x20 => .ok (.legacy .ldabsw)
  | 0x24 => .ok (.aluK .mul32Imm)
  | 0x25 => .ok (.jccK .jgt64Imm)
  | 0x26 => .ok (.jccK .jgt32Imm)
  | 0x27 => .ok (.aluK .mul64Imm)
  | 0x28 => .ok (.legacy .ldabsh)
  | 0x2c => .ok (.aluX .mul32Reg)
  | 0x2d => .ok (.jccX .jgt64Reg)
  | 0x2e => .ok (.jccX .jgt32Reg)
  | 0x2f => .ok (.aluX .mul64Reg)
  | 0x30 => .ok (.legacy .ldabsb)
  | 0x34 => .ok (.aluK .div32Imm)
  | 0x35 => .ok (.jccK .jge64Imm)
  | 0x36 => .ok (.jccK .jge32Imm)
  | 0x37 => .ok (.aluK .div64Imm)
  | 0x38 => .ok (.legacy .ldabsdw)
  | 0x3c => .ok (.aluX .div32Reg)
  | 0x3d => .ok (.jccX .jge64Reg)
  | 0x3e => .ok (.jccX .jge32Reg)
  | 0x3f => .ok (.aluX .div64Reg)
  | 0x40 => .ok (.legacy .ldindw)
  | 0x44 => .ok (.aluK .or32Imm)
  | 0x45 => .ok (.jccK .jset64Imm)
  | 0x46 => .ok (.jccK .jset32Imm)
  | 0x47 => .ok (.aluK .or64Imm)
  | 0x48 => .ok (.legacy .ldindh)
  | 0x4c => .ok (.aluX .or32Reg)
  | 0x4d => .ok (.jccX .jset64Reg)
  | 0x4e => .ok (.jccX .jset32Reg)
  | 0x4f => .ok (.aluX .or64Reg)
  | 0x50 => .ok (.legacy .ldindb)
  | 0x54 => .ok (.aluK .and32Imm)
  | 0x55 => .ok (.jccK .jne64Imm)
  | 0x56 => .ok (.jccK .jne32Imm)
  | 0x57 => .ok (.aluK .and64Imm)
  | 0x58 => .ok (.legacy .ldinddw)
  | 0x5c => .ok (.aluX .and32Reg)
  | 0x5d => .ok (.jccX .jne64Reg)
  | 0x5e => .ok (.jccX .jne32Reg)
  | 0x5f => .ok (.aluX .and64Reg)
  | 0x61 => .ok (.ldx .ldxw)
  | 0x62 => .ok (.st .stw)
  | 0x63 => .ok (.stx .stxw)
  | 0x64 => .ok (.aluK .lsh32Imm)
  | 0x65 => .ok (.jccK .jsgt64Imm)
  | 0x66 => .ok (.jccK .jsgt32Imm)
  | 0x67 => .ok (.aluK .lsh64Imm)
  | 0x69 => .ok (.ldx .ldxh)
  | 0x6a => .ok (.st .sth)
  | 0x6b => .ok (.stx .stxh)
  | 0x6c => .ok (.aluX .lsh32Reg)
  | 0x6d => .ok (.jccX .jsgt64Reg)
  | 0x6e => .ok (.jccX .jsgt32Reg)
  | 0x6f => .ok (.aluX .lsh64Reg)
  | 0x71 => .ok (.ldx .ldxb)
  | 0x72 => .ok (.st .stb)
  | 0x73 => .ok (.stx .stxb)
  | 0x74 => .ok (.aluK .rsh32Imm)
  | 0x75 => .ok (.jccK .jsge64Imm)
  | 0x76 => .ok (.jccK .jsge32Imm)
  | 0x77 => .ok (.aluK .rsh64Imm)
  | 0x79 => .ok (.ldx .ldxdw)
  | 0x7a => .ok (.st .stdw)
  | 0x7b => .ok (.stx .stxdw)
  | 0x7c => .ok (.aluX .rsh32Reg)
  | 0x7d => .ok (.jccX .jsge64Reg)
  | 0x7e => .ok (.jccX .jsge32Reg)
  | 0x7f => .ok (.aluX .rsh64Reg)
  | 0x84 => .ok (.aluUn .neg32)
  | 0x85 => callForm f.src.toNat
  | 0x87 => .ok (.aluUn .neg64)
  | 0x94 => .ok (.aluK .mod32Imm)
  | 0x95 => .ok (.exit .exit)
  | 0x97 => .ok (.aluK .mod64Imm)
  | 0x9c => .ok (.aluX .mod32Reg)
  | 0x9f => .ok (.aluX .mod64Reg)
  | 0xa4 => .ok (.aluK .xor32Imm)
  | 0xa5 => .ok (.jccK .jlt64Imm)
  | 0xa6 => .ok (.jccK .jlt32Imm)
  | 0xa7 => .ok (.aluK .xor64Imm)
  | 0xac => .ok (.aluX .xor32Reg)
  | 0xad => .ok (.jccX .jlt64Reg)
  | 0xae => .ok (.jccX .jlt32Reg)
  | 0xaf => .ok (.aluX .xor64Reg)
  | 0xb4 => .ok (.aluK .mov32Imm)
  | 0xb5 => .ok (.jccK .jle64Imm)
  | 0xb6 => .ok (.jccK .jle32Imm)
  | 0xb7 => .ok (.aluK .mov64Imm)
  | 0xbc => .ok (.aluX .mov32Reg)
  | 0xbd => .ok (.jccX .jle64Reg)
  | 0xbe => .ok (.jccX .jle32Reg)
  | 0xbf => .ok (.aluX .mov64Reg)
  | 0xc3 => atomic32Form f.imm.toNat
  | 0xc4 => .ok (.aluK .arsh32Imm)
  | 0xc5 => .ok (.jccK .jslt64Imm)
  | 0xc6 => .ok (.jccK .jslt32Imm)
  | 0xc7 => .ok (.aluK .arsh64Imm)
  | 0xcc => .ok (.aluX .arsh32Reg)
  | 0xcd => .ok (.jccX .jslt64Reg)
  | 0xce => .ok (.jccX .jslt32Reg)
  | 0xcf => .ok (.aluX .arsh64Reg)
  | 0xd4 => leForm f.imm.toNat
  | 0xd5 => .ok (.jccK .jsle64Imm)
  | 0xd6 => .ok (.jccK .jsle32Imm)
  | 0xdb => atomic64Form f.imm.toNat
  | 0xdc => beForm f.imm.toNat
  | 0xdd => .ok (.jccX .jsle64Reg)
  | 0xde => .ok (.jccX .jsle32Reg)
  | _ => .error .undefinedOpcode

/-! ## Checking the fields -/

/-- A check of the decode procedure. -/
def require (ok : Bool) (e : DecodeError) : Except DecodeError Unit := if ok then .ok () else .error e

/-- A field in use as a register number: 0 to 10 (rule R120). -/
def regNumber (x : BitVec 4) : Except DecodeError Reg :=
  if h : x.toNat < 11 then .ok ⟨x.toNat, h⟩ else .error .registerNumber

/-- A register field in a written position: 0 to 9 (rules R120, R124). -/
def writableNumber (x : BitVec 4) : Except DecodeError Reg := do
  let r ← regNumber x
  require (writable r) .writesFramePointer
  .ok r

/-- The second slot of a wide instruction: it exists and its low 32 bits are zero (rules R97, R116 step 5);
the result is `next_imm`. -/
def secondSlotImm (w2 : Option Word) : Except DecodeError (BitVec 32) :=
  match w2 with
  | none => .error .missingSecondSlot
  | some w => do
      require (w.extractLsb' 0 32 == 0) .secondSlotNotZero
      .ok (w.extractLsb' 32 32)

/-- Steps 3 to 5 of the decode procedure (rule R116) for the selected row: unused fields zero (rules R109, R119),
register numbers (rules R120, R124), the second slot (rule R97). -/
def decodeForm (lcf : LocalCallField) (w : Word) (w2 : Option Word) : Form → Except DecodeError Instr
  | .aluK mk => do
      let f := Fields.ofWord w
      require (f.src == 0 && f.off == 0) .unusedFieldNotZero
      let d ← writableNumber f.dst
      .ok (mk d f.imm)
  | .aluX mk => do
      let f := Fields.ofWord w
      require (f.off == 0 && f.imm == 0) .unusedFieldNotZero
      let d ← writableNumber f.dst
      let r ← regNumber f.src
      .ok (mk d r)
  | .aluUn mk => do
      let f := Fields.ofWord w
      require (f.src == 0 && f.off == 0 && f.imm == 0) .unusedFieldNotZero
      let d ← writableNumber f.dst
      .ok (mk d)
  | .swap mk => do
      let f := Fields.ofWord w
      require (f.src == 0 && f.off == 0) .unusedFieldNotZero
      let d ← writableNumber f.dst
      .ok (mk d)
  | .ja mk => do
      let f := Fields.ofWord w
      require (f.dst == 0 && f.src == 0 && f.imm == 0) .unusedFieldNotZero
      .ok (mk f.off)
  | .jccK mk => do
      let f := Fields.ofWord w
      require (f.src == 0) .unusedFieldNotZero
      let d ← regNumber f.dst
      .ok (mk d f.imm f.off)
  | .jccX mk => do
      let f := Fields.ofWord w
      require (f.imm == 0) .unusedFieldNotZero
      let d ← regNumber f.dst
      let r ← regNumber f.src
      .ok (mk d r f.off)
  | .callHelper mk => do
      let f := Fields.ofWord w
      require (f.dst == 0 && f.off == 0) .unusedFieldNotZero
      .ok (mk f.imm)
  | .callLocal mk => do
      let f := Fields.ofWord w
      require (f.dst == 0 && localCallUnusedZero lcf f.off f.imm) .unusedFieldNotZero
      .ok (mk f.off f.imm)
  | .exit mk => do
      let f := Fields.ofWord w
      require (f.dst == 0 && f.src == 0 && f.off == 0 && f.imm == 0) .unusedFieldNotZero
      .ok mk
  | .ldx mk => do
      let f := Fields.ofWord w
      require (f.imm == 0) .unusedFieldNotZero
      let d ← writableNumber f.dst
      let r ← regNumber f.src
      .ok (mk d r f.off)
  | .st mk => do
      let f := Fields.ofWord w
      require (f.src == 0) .unusedFieldNotZero
      let d ← regNumber f.dst
      .ok (mk d f.off f.imm)
  | .stx mk => do
      let f := Fields.ofWord w
      require (f.imm == 0) .unusedFieldNotZero
      let d ← regNumber f.dst
      let r ← regNumber f.src
      .ok (mk d r f.off)
  | .atomic mk => do
      let f := Fields.ofWord w
      let d ← regNumber f.dst
      let r ← regNumber f.src
      .ok (mk d r f.off)
  | .atomicFetch mk => do
      let f := Fields.ofWord w
      let d ← regNumber f.dst
      let r ← writableNumber f.src
      .ok (mk d r f.off)
  | .lddw2 mk => do
      let f := Fields.ofWord w
      require (f.off == 0) .unusedFieldNotZero
      let d ← writableNumber f.dst
      let next ← secondSlotImm w2
      .ok (mk d f.imm next)
  | .lddw1 mk => do
      let f := Fields.ofWord w
      require (f.off == 0) .unusedFieldNotZero
      let d ← writableNumber f.dst
      let next ← secondSlotImm w2
      require (next == 0) .secondSlotNotZero
      .ok (mk d f.imm)
  | .legacy mk => .ok (mk (w.extractLsb' 8 56))

/-- The decode procedure (rule R116) on the canonical word of a slot and, where there is one, of the slot after it.
A legacy opcode is accepted here (step 6): its meaning raises `UnsupportedFeature` (rule R123). -/
def decode (lcf : LocalCallField) (w : Word) (w2 : Option Word) : Except DecodeError Instr := do
  let form ← formOf (Fields.ofWord w)
  decodeForm lcf w w2 form

/-! ## The encoder -/

/-- A register number as a 4-bit field (rule R91). -/
def regField (r : Reg) : BitVec 4 := BitVec.ofNat 4 r.val

/-- The second slot of a wide instruction (rule R97). -/
def secondSlot (nextImm : BitVec 32) : Word := slotWord 0 0 0 0 nextImm

/-- The canonical words of an instruction, from its row of the opcode map (rules R109, R110). -/
def encode : Instr → List Word
  | .add32Imm dst imm => [slotWord 0x04 (regField dst) 0 0 imm]
  | .add32Reg dst src => [slotWord 0x0c (regField dst) (regField src) 0 0]
  | .add64Imm dst imm => [slotWord 0x07 (regField dst) 0 0 imm]
  | .add64Reg dst src => [slotWord 0x0f (regField dst) (regField src) 0 0]
  | .sub32Imm dst imm => [slotWord 0x14 (regField dst) 0 0 imm]
  | .sub32Reg dst src => [slotWord 0x1c (regField dst) (regField src) 0 0]
  | .sub64Imm dst imm => [slotWord 0x17 (regField dst) 0 0 imm]
  | .sub64Reg dst src => [slotWord 0x1f (regField dst) (regField src) 0 0]
  | .mul32Imm dst imm => [slotWord 0x24 (regField dst) 0 0 imm]
  | .mul32Reg dst src => [slotWord 0x2c (regField dst) (regField src) 0 0]
  | .mul64Imm dst imm => [slotWord 0x27 (regField dst) 0 0 imm]
  | .mul64Reg dst src => [slotWord 0x2f (regField dst) (regField src) 0 0]
  | .div32Imm dst imm => [slotWord 0x34 (regField dst) 0 0 imm]
  | .div32Reg dst src => [slotWord 0x3c (regField dst) (regField src) 0 0]
  | .div64Imm dst imm => [slotWord 0x37 (regField dst) 0 0 imm]
  | .div64Reg dst src => [slotWord 0x3f (regField dst) (regField src) 0 0]
  | .or32Imm dst imm => [slotWord 0x44 (regField dst) 0 0 imm]
  | .or32Reg dst src => [slotWord 0x4c (regField dst) (regField src) 0 0]
  | .or64Imm dst imm => [slotWord 0x47 (regField dst) 0 0 imm]
  | .or64Reg dst src => [slotWord 0x4f (regField dst) (regField src) 0 0]
  | .and32Imm dst imm => [slotWord 0x54 (regField dst) 0 0 imm]
  | .and32Reg dst src => [slotWord 0x5c (regField dst) (regField src) 0 0]
  | .and64Imm dst imm => [slotWord 0x57 (regField dst) 0 0 imm]
  | .and64Reg dst src => [slotWord 0x5f (regField dst) (regField src) 0 0]
  | .lsh32Imm dst imm => [slotWord 0x64 (regField dst) 0 0 imm]
  | .lsh32Reg dst src => [slotWord 0x6c (regField dst) (regField src) 0 0]
  | .lsh64Imm dst imm => [slotWord 0x67 (regField dst) 0 0 imm]
  | .lsh64Reg dst src => [slotWord 0x6f (regField dst) (regField src) 0 0]
  | .rsh32Imm dst imm => [slotWord 0x74 (regField dst) 0 0 imm]
  | .rsh32Reg dst src => [slotWord 0x7c (regField dst) (regField src) 0 0]
  | .rsh64Imm dst imm => [slotWord 0x77 (regField dst) 0 0 imm]
  | .rsh64Reg dst src => [slotWord 0x7f (regField dst) (regField src) 0 0]
  | .neg32 dst => [slotWord 0x84 (regField dst) 0 0 0]
  | .neg64 dst => [slotWord 0x87 (regField dst) 0 0 0]
  | .mod32Imm dst imm => [slotWord 0x94 (regField dst) 0 0 imm]
  | .mod32Reg dst src => [slotWord 0x9c (regField dst) (regField src) 0 0]
  | .mod64Imm dst imm => [slotWord 0x97 (regField dst) 0 0 imm]
  | .mod64Reg dst src => [slotWord 0x9f (regField dst) (regField src) 0 0]
  | .xor32Imm dst imm => [slotWord 0xa4 (regField dst) 0 0 imm]
  | .xor32Reg dst src => [slotWord 0xac (regField dst) (regField src) 0 0]
  | .xor64Imm dst imm => [slotWord 0xa7 (regField dst) 0 0 imm]
  | .xor64Reg dst src => [slotWord 0xaf (regField dst) (regField src) 0 0]
  | .mov32Imm dst imm => [slotWord 0xb4 (regField dst) 0 0 imm]
  | .mov32Reg dst src => [slotWord 0xbc (regField dst) (regField src) 0 0]
  | .mov64Imm dst imm => [slotWord 0xb7 (regField dst) 0 0 imm]
  | .mov64Reg dst src => [slotWord 0xbf (regField dst) (regField src) 0 0]
  | .arsh32Imm dst imm => [slotWord 0xc4 (regField dst) 0 0 imm]
  | .arsh32Reg dst src => [slotWord 0xcc (regField dst) (regField src) 0 0]
  | .arsh64Imm dst imm => [slotWord 0xc7 (regField dst) 0 0 imm]
  | .arsh64Reg dst src => [slotWord 0xcf (regField dst) (regField src) 0 0]
  | .le16 dst => [slotWord 0xd4 (regField dst) 0 0 16]
  | .le32 dst => [slotWord 0xd4 (regField dst) 0 0 32]
  | .le64 dst => [slotWord 0xd4 (regField dst) 0 0 64]
  | .be16 dst => [slotWord 0xdc (regField dst) 0 0 16]
  | .be32 dst => [slotWord 0xdc (regField dst) 0 0 32]
  | .be64 dst => [slotWord 0xdc (regField dst) 0 0 64]
  | .ja off => [slotWord 0x05 0 0 off 0]
  | .jeq64Imm dst imm off => [slotWord 0x15 (regField dst) 0 off imm]
  | .jeq64Reg dst src off => [slotWord 0x1d (regField dst) (regField src) off 0]
  | .jeq32Imm dst imm off => [slotWord 0x16 (regField dst) 0 off imm]
  | .jeq32Reg dst src off => [slotWord 0x1e (regField dst) (regField src) off 0]
  | .jgt64Imm dst imm off => [slotWord 0x25 (regField dst) 0 off imm]
  | .jgt64Reg dst src off => [slotWord 0x2d (regField dst) (regField src) off 0]
  | .jgt32Imm dst imm off => [slotWord 0x26 (regField dst) 0 off imm]
  | .jgt32Reg dst src off => [slotWord 0x2e (regField dst) (regField src) off 0]
  | .jge64Imm dst imm off => [slotWord 0x35 (regField dst) 0 off imm]
  | .jge64Reg dst src off => [slotWord 0x3d (regField dst) (regField src) off 0]
  | .jge32Imm dst imm off => [slotWord 0x36 (regField dst) 0 off imm]
  | .jge32Reg dst src off => [slotWord 0x3e (regField dst) (regField src) off 0]
  | .jset64Imm dst imm off => [slotWord 0x45 (regField dst) 0 off imm]
  | .jset64Reg dst src off => [slotWord 0x4d (regField dst) (regField src) off 0]
  | .jset32Imm dst imm off => [slotWord 0x46 (regField dst) 0 off imm]
  | .jset32Reg dst src off => [slotWord 0x4e (regField dst) (regField src) off 0]
  | .jne64Imm dst imm off => [slotWord 0x55 (regField dst) 0 off imm]
  | .jne64Reg dst src off => [slotWord 0x5d (regField dst) (regField src) off 0]
  | .jne32Imm dst imm off => [slotWord 0x56 (regField dst) 0 off imm]
  | .jne32Reg dst src off => [slotWord 0x5e (regField dst) (regField src) off 0]
  | .jsgt64Imm dst imm off => [slotWord 0x65 (regField dst) 0 off imm]
  | .jsgt64Reg dst src off => [slotWord 0x6d (regField dst) (regField src) off 0]
  | .jsgt32Imm dst imm off => [slotWord 0x66 (regField dst) 0 off imm]
  | .jsgt32Reg dst src off => [slotWord 0x6e (regField dst) (regField src) off 0]
  | .jsge64Imm dst imm off => [slotWord 0x75 (regField dst) 0 off imm]
  | .jsge64Reg dst src off => [slotWord 0x7d (regField dst) (regField src) off 0]
  | .jsge32Imm dst imm off => [slotWord 0x76 (regField dst) 0 off imm]
  | .jsge32Reg dst src off => [slotWord 0x7e (regField dst) (regField src) off 0]
  | .jlt64Imm dst imm off => [slotWord 0xa5 (regField dst) 0 off imm]
  | .jlt64Reg dst src off => [slotWord 0xad (regField dst) (regField src) off 0]
  | .jlt32Imm dst imm off => [slotWord 0xa6 (regField dst) 0 off imm]
  | .jlt32Reg dst src off => [slotWord 0xae (regField dst) (regField src) off 0]
  | .jle64Imm dst imm off => [slotWord 0xb5 (regField dst) 0 off imm]
  | .jle64Reg dst src off => [slotWord 0xbd (regField dst) (regField src) off 0]
  | .jle32Imm dst imm off => [slotWord 0xb6 (regField dst) 0 off imm]
  | .jle32Reg dst src off => [slotWord 0xbe (regField dst) (regField src) off 0]
  | .jslt64Imm dst imm off => [slotWord 0xc5 (regField dst) 0 off imm]
  | .jslt64Reg dst src off => [slotWord 0xcd (regField dst) (regField src) off 0]
  | .jslt32Imm dst imm off => [slotWord 0xc6 (regField dst) 0 off imm]
  | .jslt32Reg dst src off => [slotWord 0xce (regField dst) (regField src) off 0]
  | .jsle64Imm dst imm off => [slotWord 0xd5 (regField dst) 0 off imm]
  | .jsle64Reg dst src off => [slotWord 0xdd (regField dst) (regField src) off 0]
  | .jsle32Imm dst imm off => [slotWord 0xd6 (regField dst) 0 off imm]
  | .jsle32Reg dst src off => [slotWord 0xde (regField dst) (regField src) off 0]
  | .callHelper imm => [slotWord 0x85 0 0 0 imm]
  | .callLocal off imm => [slotWord 0x85 0 1 off imm]
  | .callPlatform imm => [slotWord 0x85 0 2 0 imm]
  | .exit => [slotWord 0x95 0 0 0 0]
  | .ldxw dst src off => [slotWord 0x61 (regField dst) (regField src) off 0]
  | .ldxh dst src off => [slotWord 0x69 (regField dst) (regField src) off 0]
  | .ldxb dst src off => [slotWord 0x71 (regField dst) (regField src) off 0]
  | .ldxdw dst src off => [slotWord 0x79 (regField dst) (regField src) off 0]
  | .stw dst off imm => [slotWord 0x62 (regField dst) 0 off imm]
  | .sth dst off imm => [slotWord 0x6a (regField dst) 0 off imm]
  | .stb dst off imm => [slotWord 0x72 (regField dst) 0 off imm]
  | .stdw dst off imm => [slotWord 0x7a (regField dst) 0 off imm]
  | .stxw dst src off => [slotWord 0x63 (regField dst) (regField src) off 0]
  | .stxh dst src off => [slotWord 0x6b (regField dst) (regField src) off 0]
  | .stxb dst src off => [slotWord 0x73 (regField dst) (regField src) off 0]
  | .stxdw dst src off => [slotWord 0x7b (regField dst) (regField src) off 0]
  | .atomicAdd32 dst src off => [slotWord 0xc3 (regField dst) (regField src) off 0x00]
  | .atomicFetchAdd32 dst src off => [slotWord 0xc3 (regField dst) (regField src) off 0x01]
  | .atomicOr32 dst src off => [slotWord 0xc3 (regField dst) (regField src) off 0x40]
  | .atomicFetchOr32 dst src off => [slotWord 0xc3 (regField dst) (regField src) off 0x41]
  | .atomicAnd32 dst src off => [slotWord 0xc3 (regField dst) (regField src) off 0x50]
  | .atomicFetchAnd32 dst src off => [slotWord 0xc3 (regField dst) (regField src) off 0x51]
  | .atomicXor32 dst src off => [slotWord 0xc3 (regField dst) (regField src) off 0xa0]
  | .atomicFetchXor32 dst src off => [slotWord 0xc3 (regField dst) (regField src) off 0xa1]
  | .atomicXchg32 dst src off => [slotWord 0xc3 (regField dst) (regField src) off 0xe1]
  | .atomicCmpxchg32 dst src off => [slotWord 0xc3 (regField dst) (regField src) off 0xf1]
  | .atomicAdd64 dst src off => [slotWord 0xdb (regField dst) (regField src) off 0x00]
  | .atomicFetchAdd64 dst src off => [slotWord 0xdb (regField dst) (regField src) off 0x01]
  | .atomicOr64 dst src off => [slotWord 0xdb (regField dst) (regField src) off 0x40]
  | .atomicFetchOr64 dst src off => [slotWord 0xdb (regField dst) (regField src) off 0x41]
  | .atomicAnd64 dst src off => [slotWord 0xdb (regField dst) (regField src) off 0x50]
  | .atomicFetchAnd64 dst src off => [slotWord 0xdb (regField dst) (regField src) off 0x51]
  | .atomicXor64 dst src off => [slotWord 0xdb (regField dst) (regField src) off 0xa0]
  | .atomicFetchXor64 dst src off => [slotWord 0xdb (regField dst) (regField src) off 0xa1]
  | .atomicXchg64 dst src off => [slotWord 0xdb (regField dst) (regField src) off 0xe1]
  | .atomicCmpxchg64 dst src off => [slotWord 0xdb (regField dst) (regField src) off 0xf1]
  | .lddw dst imm nextImm => [slotWord 0x18 (regField dst) 0 0 imm, secondSlot nextImm]
  | .ldMapFd dst imm => [slotWord 0x18 (regField dst) 1 0 imm, secondSlot 0]
  | .ldMapFdValue dst imm nextImm => [slotWord 0x18 (regField dst) 2 0 imm, secondSlot nextImm]
  | .ldVarAddr dst imm => [slotWord 0x18 (regField dst) 3 0 imm, secondSlot 0]
  | .ldCodeAddr dst imm => [slotWord 0x18 (regField dst) 4 0 imm, secondSlot 0]
  | .ldMapIdx dst imm => [slotWord 0x18 (regField dst) 5 0 imm, secondSlot 0]
  | .ldMapIdxValue dst imm nextImm => [slotWord 0x18 (regField dst) 6 0 imm, secondSlot nextImm]
  | .ldabsw rest => [rest ++ (0x20 : BitVec 8)]
  | .ldabsh rest => [rest ++ (0x28 : BitVec 8)]
  | .ldabsb rest => [rest ++ (0x30 : BitVec 8)]
  | .ldabsdw rest => [rest ++ (0x38 : BitVec 8)]
  | .ldindw rest => [rest ++ (0x40 : BitVec 8)]
  | .ldindh rest => [rest ++ (0x48 : BitVec 8)]
  | .ldindb rest => [rest ++ (0x50 : BitVec 8)]
  | .ldinddw rest => [rest ++ (0x58 : BitVec 8)]

/-- The bytes of an instruction in a program image (rules R92, R93). -/
def encodeBytes (bo : ByteOrder) (i : Instr) : List Byte := (encode i).flatMap (slotBytes bo)

/-! ## Decoding from bytes and from a program -/

/-- Decode the first instruction of a byte sequence; the result has the bytes after it. A slot that is not whole
counts as absent (rules R90, R98). -/
def decodeBytes (bo : ByteOrder) (lcf : LocalCallField) (bytes : List Byte) :
    Except DecodeError (Instr × List Byte) :=
  match takeSlot bo bytes with
  | none => .error .truncated
  | some (w, rest) =>
    match takeSlot bo rest with
    | none => do
        let i ← decode lcf w none
        .ok (i, rest)
    | some (w2, rest2) => do
        let i ← decode lcf w (some w2)
        .ok (i, if (encode i).length = 2 then rest2 else rest)

/-- Which slots of a program are second slots of wide instructions, reading the text from its start: the slot after
one whose opcode is 0x18 (rule R98; log 14). -/
def secondSlots : Bool → List Word → List Bool
  | _, [] => []
  | true, _ :: ws => true :: secondSlots false ws
  | false, w :: ws => false :: secondSlots (w.extractLsb' 0 8 == 0x18) ws

/-- Slot `k` is the second slot of a wide instruction of the program. -/
def isSecondSlot (text : List Word) (k : Nat) : Bool := (secondSlots false text)[k]? == some true

/-- The two canonical words of an instruction whose bits are `w`, numbered from the first slot's bit 0; bits from
`nbits` up are zero. -/
def tableWords (nbits w : Nat) : Word × Word :=
  let v := w % 2 ^ nbits
  (BitVec.ofNat 64 v, BitVec.ofNat 64 (v / 2 ^ 64))

/-- The instruction the decoder reads from an instruction whose bits are `w`, laid out as the reference byte order
stores it (rule R92), with the reference `LOCAL_CALL_FIELD`. -/
def decodeTableWord (nbits w : Nat) : Option Instr :=
  let ws := tableWords nbits w
  match decodeBytes Config.reference.byteOrder Config.reference.localCallField
      (slotBytes Config.reference.byteOrder ws.1 ++ slotBytes Config.reference.byteOrder ws.2) with
  | .ok (i, _) => some i
  | .error _ => none

end Sys2Proof
end

