-- ==== Sys2Proof/Machine/State.lean ====
section
/-! DEFINITION. Sys2Proof/Machine/State.lean: everything the spec gives the machine (rules R7, R30 to R48), as plain
data; the faults (rule R351); the state at entry (rules R48, R380), which is this machine's reset. -/

namespace Sys2Proof.Machine

/-- The content of a register: a 64-bit value, or "no value" (rule R36), which is the spec's own state of a register
that nothing has written or that a call has clobbered. -/
inductive RegContent where
  | value (v : Word)
  | noValue
  deriving DecidableEq, Repr

/-- A frame of the call stack (rule R44): the slot to return to and the caller's R6 to R10. -/
structure Frame where
  retPc : Nat
  s6 : RegContent
  s7 : RegContent
  s8 : RegContent
  s9 : RegContent
  s10 : Word
  deriving DecidableEq, Repr

/-- The `what` of an `UnsupportedFeature` (rule R356). -/
inductive Feature where
  | legacyPacket
  | platformHelper
  | ldMapFd
  | ldMapFdValue
  | ldVarAddr
  | ldCodeAddr
  | ldMapIdx
  | ldMapIdxValue
  | shiftAmount
  deriving DecidableEq, Repr

/-- The `reason` of a `MemoryFault` (rules R351, R354). -/
inductive MemReason where
  | unmapped
  | permission
  | misaligned
  | wrap
  deriving DecidableEq, Repr

/-- The seven faults (rule R351), with what each carries. All are terminal (rule R350): the step that raises one
changes the run status and nothing else, and the machine then has no further step. Each is the spec's own, so
stopping with it is safe: nothing can be proved of the result of a faulted run. -/
inductive Fault where
  /-- Raised by the fetch when a word is not an instruction, and by an instruction that names R10 where it writes
  (rule R352). Safe. -/
  | illegalInstruction (pc : Nat) (w : Word)
  /-- Raised by an instruction whose behaviour the platform does not supply (rule R356). Safe. -/
  | unsupportedFeature (pc : Nat) (what : Feature)
  /-- Raised by a read of a register that holds no value under UNINIT_POLICY = fault (rule R353). Safe. -/
  | uninitializedRegister (pc : Nat) (r : Reg)
  /-- Raised by a BPF-local call at the depth limit (rule R358). Safe. -/
  | callDepthExceeded (pc : Nat)
  /-- Raised by a helper call whose integer the table does not define (rule R357). Safe. -/
  | unknownHelper (pc : Nat) (space : HelperSpace) (id : Int)
  /-- Raised by an access that memory does not admit (rule R354). Safe. -/
  | memoryFault (pc : Nat) (addr : Word) (n : Nat) (kind : AccessKind) (reason : MemReason)
  /-- Raised when the next instruction would lie outside the program (rule R355). Safe. -/
  | pcOutOfRange (pc : Nat) (target : Int)
  deriving DecidableEq, Repr

/-- Why a step has no next state although the machine did not stop with a fault. -/
inductive Refusal where
  /-- Raised by an instruction that has no meaning yet; no arm uses it. Safe. -/
  | notModelled (mnemonic : String)
  /-- Raised by `step` when the run has exited: "the agent has no further step" (rule R45). Safe. -/
  | runExited
  deriving DecidableEq, Repr

/-- The run status (rule R45). -/
inductive RunStatus where
  | running
  | exited (v : Word)
  | faulted (f : Fault)
  deriving DecidableEq, Repr

/-- What the environment does around one step of the program (rules R71, R74; log 8): the bytes it writes before the
step; its moves while the step makes the byte accesses of a plain access to a shared region, each move a list of bytes
it writes; and how those accesses and those moves interleave: `times[k]` says how many of the moves come before the
access to the byte at place `k` of the access, counted from its lowest address (all of them where the list ends). -/
structure EnvStep where
  before : List Host.Cell
  during : List (List Host.Cell)
  times : List Nat
  deriving DecidableEq, Repr

/-- The machine. `cfg` and `text` are fixed for a run (rules R42, R78). `draws`, `env`, `during` and `times` are the
model's own fields: `draws` counts the steps begun, so that each step's free values are its own (rule R22, log 18);
`env` is the queue of what the environment will still do, one entry for each step; `during` and `times` are those of
the step under way (rules R71, R74; log 8). -/
structure State where
  /-- The implementation parameters (rules R8 to R14). -/
  cfg : Config
  /-- The program: one canonical word for each slot (rules R47, R91). -/
  text : List Word
  /-- R0 to R10 (rule R30). -/
  regs : Vector RegContent 11
  /-- The slot index of the instruction to execute (rule R38). -/
  pc : Nat
  /-- The call stack, the innermost frame first (rule R44). -/
  callStack : List Frame
  /-- Data memory: the bytes that hold a value, at strictly rising addresses (rule R47). -/
  mem : List Host.Cell
  /-- The run status (rule R45). -/
  status : RunStatus
  /-- The model's own: how many steps have begun. -/
  draws : Nat
  /-- The model's own: what the environment will do in the steps to come. -/
  env : List EnvStep
  /-- The model's own: the environment's moves within the step under way. -/
  during : List (List Host.Cell)
  /-- The model's own: how the step's byte accesses interleave with those moves. -/
  times : List Nat
  deriving DecidableEq, Repr

/-- The content of a register at entry: the argument where `ENTRY_ARGS` defines it, else no value (rule R48). -/
def entryContent : Option Word → RegContent
  | some v => .value v
  | none => .noValue

/-- The state in which a program is entered (rules R48, R380): what stands for reset on this machine. The platform
gives the parameters, the program, the bytes its regions hold, and what the environment will do. -/
def State.enter (cfg : Config) (text : List Word) (mem : List Host.Cell) (env : List EnvStep) : State where
  cfg := cfg
  text := text
  regs := #v[.noValue, entryContent cfg.entryArgs[0], entryContent cfg.entryArgs[1], entryContent cfg.entryArgs[2],
    entryContent cfg.entryArgs[3], entryContent cfg.entryArgs[4], .noValue, .noValue, .noValue, .noValue,
    .value cfg.entryFramePointer]
  pc := 0
  callStack := []
  mem := mem
  status := .running
  draws := 0
  env := env
  during := []
  times := []

/-- The parameters of the machine right after reset: the reference values, but for two choices of the model: R1 to R5
hold 0 (log 3), and a register that holds no value reads as a draw (rule R36 allows it; log 2). -/
def resetConfig : Config :=
  { Config.reference with
    uninitPolicy := .draw, entryArgs := #v[some 0, some 0, some 0, some 0, some 0] }

/-- The machine right after reset (rules R48, R380): entered with no program loaded (log 6), nothing listed in
memory (log 7), and no environment move to come (log 9). -/
def State.reset : State := State.enter resetConfig [] [] []

end Sys2Proof.Machine
end

