-- ==== Sys2Proof/Machine/Ops.lean ====
section
/-! DEFINITION. Sys2Proof/Machine/Ops.lean: the named operations the meanings are built from: raising a fault,
registers, the program counter, data memory, helpers, the call stack, the environment, fetching and loading. -/

namespace Sys2Proof.Machine

/-! ## Raising a fault -/

/-- `raise F(info)` (rule R350): the status becomes `faulted(F)` and nothing else changes. This is the whole of
taking an exception on this machine (rule R362); there is no return from one (rule R363). -/
def raise (f : Fault) (s : State) : State := { s with status := .faulted f }

/-- What a step's stages leave: the state they reach, or the state before them with the fault raised (rules R46,
R350: "A step that raises a fault changes nothing but the status"). -/
def settled (s : State) (r : Except Fault State) : State :=
  match r with
  | .ok t => t
  | .error f => raise f s

/-- Every instruction answers a next state: its effect, or its fault, taken (log 11). -/
def settle (s : State) (r : Except Fault State) : Host.Outcome State Fault Refusal := .next (settled s r)

/-- The fault of an instruction that has no meaning at this `pc`: the canonical word of its slot (rule R351). -/
def illegalHere (s : State) : Fault := .illegalInstruction s.pc (s.text[s.pc]?.getD 0)

/-- Raised by an instruction whose behaviour the platform does not supply (rule R356). -/
def unsupported (s : State) (what : Feature) : Fault := .unsupportedFeature s.pc what

/-! ## Registers -/

/-- The content of a register (rule R36). -/
def State.reg (s : State) (r : Reg) : RegContent := s.regs[r]

/-- A register gets a content. -/
def State.setReg (s : State) (r : Reg) (c : RegContent) : State := { s with regs := s.regs.set r.val c r.isLt }

/-- `x[r] <- v` (rule R17). -/
def State.write (s : State) (r : Reg) (v : Word) : State := s.setReg r (.value v)

/-- The registers of a list lose their value (rules R262, R264, R266). -/
def State.clobber (s : State) (rs : List Reg) : State := rs.foldl (fun t r => t.setReg r .noValue) s

/-- `x[r]` (rules R17, R36): the value, or, for a register that holds none, `UninitializedRegister` or a draw as
`UNINIT_POLICY` says. -/
def readReg (s : State) (pos : ReadPos) (r : Reg) : Except Fault Word :=
  match s.reg r with
  | .value v => .ok v
  | .noValue =>
    match s.cfg.uninitPolicy with
    | .fault => .error (.uninitializedRegister s.pc r)
    | .draw => .ok (Config.drawReg s.draws pos r)

/-- No instruction writes the read-only frame pointer (rules R33, R124). The decoder has already refused such an
instruction; the check here makes a meaning right on every term (log 12). -/
def checkWritable (s : State) (r : Reg) : Except Fault Unit :=
  if writable r then .ok () else .error (illegalHere s)

/-! ## The program counter -/

/-- `pc` gets a value. -/
def State.setPc (s : State) (k : Nat) : State := { s with pc := k }

/-- Stage 5 of a step (rules R40, R46): set `pc`, or raise `PcOutOfRange(pc, target)`. -/
def goTo (s : State) (target : Int) : Except Fault State :=
  if 0 ≤ target ∧ target < s.text.length then .ok (s.setPc target.toNat)
  else .error (.pcOutOfRange s.pc target)

/-- `pc <- pc + n` (rule R39: 1 for a basic instruction, 2 for a wide one). -/
def advance (s : State) (n : Nat) : Except Fault State := goTo s (s.pc + n)

/-- The end of an instruction that writes one register (rules R39, R46): the write, then `pc + 1`. -/
def writeBack (s : State) (r : Reg) (v : Word) : Except Fault State := advance (s.write r v) 1

/-- The slot a jump with this offset goes to (rule R211): relative to the next instruction. -/
def jumpTarget (s : State) (off : Int) : Int := s.pc + 1 + off

/-! ## Data memory: the list of cells -/

/-- Data memory, as its listed bytes. -/
abbrev Memory := List Host.Cell

/-- The one canonical form: strictly rising addresses, all below 2^64 (rule R65). No value is what an unlisted byte
reads as (it reads as a free value), so no listed byte is redundant. -/
abbrev Memory.wf (m : Memory) : Prop := m.Pairwise (fun a b => a.1 < b.1) ∧ ∀ c ∈ m, c.1 < 2 ^ 64

/-- The listed byte at an address. -/
def Memory.lookup (m : Memory) (a : Nat) : Option Byte :=
  match m with
  | [] => none
  | c :: rest => if c.1 = a then some c.2 else Memory.lookup rest a

/-- Write one byte, keeping the addresses strictly rising. -/
def Memory.set (m : Memory) (a : Nat) (b : Byte) : Memory :=
  match m with
  | [] => [(a, b)]
  | c :: rest =>
    if a < c.1 then (a, b) :: c :: rest
    else if a = c.1 then (a, b) :: rest
    else c :: Memory.set rest a b

/-- Write bytes at rising addresses from `a`. -/
def Memory.setBytes (m : Memory) (a : Nat) : List Byte → Memory
  | [] => m
  | b :: bs => Memory.setBytes (m.set a b) (a + 1) bs

/-- Write a list of cells, in order. -/
def Memory.setCells (m : Memory) (cs : List Host.Cell) : Memory := cs.foldl (fun m c => m.set c.1 c.2) m

/-- The byte lies in a region (rules R66, R262). -/
def inSomeRegion (c : Config) (a : Nat) : Bool :=
  decide (a < 2 ^ 64) && c.allRegions.any (fun g => g.containsRange a 1)

/-- The environment may write the byte (rule R74): it lies in a region that is shared, and in none that is not. -/
def inSharedRegion (c : Config) (a : Nat) : Bool :=
  inSomeRegion c a && c.allRegions.all (fun g => !g.containsRange a 1 || g.shared)

/-- A read of the byte is a draw as long as nothing was written there (rule R62): it is a byte of the stack, or one
that the environment may write. -/
def isDrawn (c : Config) (a : Nat) : Bool := c.stackRegion.containsRange a 1 || inSharedRegion c a

/-- What a byte that nothing has written reads as in step number `n`: a draw of that step where rule R62 has a draw;
elsewhere a free value that stays the same from step to step (rule R72; log 7). -/
def unwrittenByte (c : Config) (n a : Nat) : Byte :=
  if isDrawn c a then Config.drawByte n a else Config.initialByte c a

/-- The byte at an address: what was written there, else what an unwritten byte reads as (rules R62, R67, R72). -/
def State.byteAt (s : State) (a : Nat) : Byte :=
  match Memory.lookup s.mem a with
  | some b => b
  | none => unwrittenByte s.cfg s.draws a

/-- The `n` bytes at rising addresses from `a`. -/
def State.bytesAt (s : State) (a : Nat) : Nat → List Byte
  | 0 => []
  | n + 1 => s.byteAt a :: s.bytesAt (a + 1) n

/-! ## Byte order of data (rule R60) -/

/-- The value whose byte at the lowest address is its bits 7:0, zero-extended to 64 bits. -/
def joinLow : List Byte → Word
  | [] => 0
  | b :: bs => (joinLow bs <<< 8) ||| b.zeroExtend 64

/-- The low `n` bytes of a value, bits 7:0 first. -/
def splitLow (v : Word) : Nat → List Byte
  | 0 => []
  | n + 1 => v.truncate 8 :: splitLow (v >>> 8) n

/-- The value the bytes of an access hold, in address order, zero-extended to 64 bits (rule R60). -/
def assemble (bo : ByteOrder) (bs : List Byte) : Word :=
  match bo with
  | .le => joinLow bs
  | .be => joinLow bs.reverse

/-- The bytes, in address order, of the low `n` bytes of a value (rule R60). -/
def layout (bo : ByteOrder) (n : Nat) (v : Word) : List Byte :=
  match bo with
  | .le => splitLow v n
  | .be => (splitLow v n).reverse

/-! ## Access primitives (rules R62, R63, R82) -/

/-- The region that contains the whole range, where one does (rule R66). -/
def regionOf (c : Config) (addr n : Nat) : Option Region :=
  c.allRegions.find? (fun g => g.containsRange addr n)

/-- The accesses that must be naturally aligned (rule R68). -/
def mustAlign (c : Config) (kind : AccessKind) : Bool := kind == .atomic || c.alignPolicy == .strict

/-- Admission of an access of `n` bytes at `addr`: the checks in the order misaligned, wrap, then unmapped or
permission (rules R62, R63, R66, R68, R82, R354; log 17). Rule R354 gives this order for atomics alone. DESIGN CHOICE
(log 13): under ALIGN_POLICY = strict a plain access takes it too, so that one that is misaligned and also wraps, is
unmapped or lacks the right reports misaligned. -/
def checkAccess (s : State) (kind : AccessKind) (addr : Word) (n : Nat) : Except Fault Unit :=
  if mustAlign s.cfg kind && addr.toNat % n != 0 then .error (.memoryFault s.pc addr n kind .misaligned)
  else if 2 ^ 64 < addr.toNat + n then .error (.memoryFault s.pc addr n kind .wrap)
  else
    match regionOf s.cfg addr.toNat n with
    | none => .error (.memoryFault s.pc addr n kind .unmapped)
    | some g => if g.permits kind then .ok () else .error (.memoryFault s.pc addr n kind .permission)

/-- The value of the `n` bytes at `addr`, zero-extended (rule R60). -/
def State.load (s : State) (addr : Word) (n : Nat) : Word := assemble s.cfg.byteOrder (s.bytesAt addr.toNat n)

/-- The `n` bytes at `addr` replaced by the low bytes of `v`; no other byte changes (rule R63). -/
def State.store (s : State) (addr : Word) (n : Nat) (v : Word) : State :=
  { s with mem := Memory.setBytes s.mem addr.toNat (layout s.cfg.byteOrder n v) }

/-! ## The environment (rules R71, R74, R75) -/

/-- An environment move: it writes bytes of shared regions and nothing else (rule R74). -/
def envWrite (s : State) (cells : List Host.Cell) : State :=
  { s with mem := Memory.setCells s.mem (cells.filter (fun c => inSharedRegion s.cfg c.1)) }

/-- Environment moves, one after the other. -/
def envWrites (s : State) (moves : List (List Host.Cell)) : State := moves.foldl envWrite s

/-- What happens between two steps of the program agent (rules R46, R74, R364): the environment writes what it writes
before the coming step, and that step's interleaving and draws become its own. -/
def State.betweenSteps (s : State) : State :=
  match s.env with
  | [] => { s with draws := s.draws + 1, during := [], times := [] }
  | e :: rest =>
    { envWrite s e.before with draws := s.draws + 1, env := rest, during := e.during, times := e.times }

/-- The access is one to a shared region: the region that contains the range is flagged `shared` (rules R66, R71). -/
def sharedAccess (s : State) (addr : Word) (n : Nat) : Bool :=
  match regionOf s.cfg addr.toNat n with
  | some g => g.shared
  | none => false

/-- The environment moves that fall between the byte accesses of a plain access: those of the step when the region is
shared, none when it is not ("trivially atomic", rules R71, R74). -/
def movesWithin (s : State) (addr : Word) (n : Nat) : List (List Host.Cell) :=
  if sharedAccess s addr n then s.during else []

/-- How many of `m` moves come before the access to the byte at place `k` (rule R71: "in unspecified order"). -/
def accessTime (s : State) (m k : Nat) : Nat := min (s.times[k]?.getD m) m

/-- The value a plain load takes from memory while the environment makes its moves: each byte as it is when its own
access comes (rules R60, R71). -/
def loadThrough (s : State) (moves : List (List Host.Cell)) (addr : Word) (n : Nat) : Word :=
  assemble s.cfg.byteOrder ((List.range n).map
    (fun k => (envWrites s (moves.take (accessTime s moves.length k))).byteAt (addr.toNat + k)))

/-- The bytes of a plain store whose access comes after just `j` of `m` moves. -/
def dueCells (s : State) (m addr : Nat) (bs : List Byte) (j : Nat) : List Host.Cell :=
  (bs.zipIdx.filter (fun p => accessTime s m p.2 == j)).map (fun p => (addr + p.2, p.1))

/-- Those bytes written: `s` is the state in which the store began, `t` the one it has reached. -/
def storeDue (s : State) (m addr : Nat) (bs : List Byte) (t : State) (j : Nat) : State :=
  { t with mem := Memory.setCells t.mem (dueCells s m addr bs j) }

/-- Accesses and environment moves in turn (rule R75 (b)): what is due after `j` moves, then the next move, and so on. -/
def interleave (due : State → Nat → State) (s : State) (moves : List (List Host.Cell)) (j : Nat) : State :=
  match moves with
  | [] => due s j
  | move :: rest => interleave due (envWrite (due s j) move) rest (j + 1)

/-- Memory after a plain store made while the environment makes its moves: each byte is written when its own access
comes, and the moves after that may write over it (rules R60, R71). -/
def storeThrough (s : State) (moves : List (List Host.Cell)) (addr : Word) (n : Nat) (v : Word) : State :=
  interleave (storeDue s moves.length addr.toNat (layout s.cfg.byteOrder n v)) s moves 0

/-! ## The accesses of instructions -/

/-- `MemRead(addr, n)` (rules R62, R71): the value, and the state after the environment moves within the access. -/
def memRead (s : State) (addr : Word) (n : Nat) : Except Fault (Word × State) := do
  checkAccess s .read addr n
  let moves := movesWithin s addr n
  .ok (loadThrough s moves addr n, envWrites s moves)

/-- `MemWrite(addr, n, v)` (rules R63, R71). -/
def memWrite (s : State) (addr : Word) (n : Nat) (v : Word) : Except Fault State := do
  checkAccess s .write addr n
  .ok (storeThrough s (movesWithin s addr n) addr n v)

/-- `AtomicRMW(addr, n, f)` (rules R77, R82): the old value, and the state after the write, if `f` makes one. It is
indivisible: no environment move falls within it. -/
def atomicRMW (s : State) (addr : Word) (n : Nat) (f : Word → Option Word) : Except Fault (Word × State) := do
  checkAccess s .atomic addr n
  let old := s.load addr n
  match f old with
  | some v => .ok (old, s.store addr n v)
  | none => .ok (old, s)

/-! ## Helper calls (rules R261 to R263) -/

/-- R1 to R5, the argument registers, in order (rule R262). -/
def argRegs : List Reg := [1, 2, 3, 4, 5]

/-- Read registers in order; the first that holds no value decides (rule R353). -/
def readRegs (s : State) (pos : ReadPos) : List Reg → Except Fault (List Word)
  | [] => .ok []
  | r :: rs => do
      let v ← readReg s pos r
      let vs ← readRegs s pos rs
      .ok (v :: vs)

/-- The platform's entry for a helper, where it defines it (rules R13, R262). -/
def helperOf (c : Config) (space : HelperSpace) (id : Int) : Option Helper :=
  match space with
  | .agnostic => c.helpersAgnostic.lookup id
  | .platform => c.helpersPlatform.lookup id

/-- The arity the platform's table gives a helper, where it defines it (rules R13, R262). -/
def helperArity (c : Config) (space : HelperSpace) (id : Int) : Option (Fin 6) :=
  (helperOf c space id).map Helper.arity

/-- An operation of a helper's computation. -/
def evalHelperOp (o : HelperOp) (a b : Word) : Word :=
  match o with
  | .add => a + b
  | .sub => a - b
  | .mul => a * b
  | .div => a / b
  | .mod => a % b
  | .and => a &&& b
  | .or => a ||| b
  | .xor => a ^^^ b
  | .shl => a <<< (b.toNat % 64)
  | .shr => a >>> (b.toNat % 64)
  | .eq => if a = b then 1 else 0
  | .lt => if a.toNat < b.toNat then 1 else 0
  | .slt => if a.toInt < b.toInt then 1 else 0

/-- The value of a helper's expression in the state of the call. -/
def evalHelperExpr (s : State) (args : List Word) : HelperExpr → Word
  | .const v => v
  | .arg i => args[i.val]?.getD (Config.drawReg s.draws .arg argRegs[i])
  | .draw k => Config.helperDraw s.draws k
  | .load n addr => s.load (evalHelperExpr s args addr) n
  | .op o a b => evalHelperOp o (evalHelperExpr s args a) (evalHelperExpr s args b)
  | .ite c a b => if evalHelperExpr s args c = 0 then evalHelperExpr s args b else evalHelperExpr s args a

/-- The bytes a helper's effect writes, computed in the state of the call. -/
def effectCells (s : State) (args : List Word) : HelperEffect → List Host.Cell
  | .store n addr value =>
    (layout s.cfg.byteOrder n (evalHelperExpr s args value)).zipIdx.map
      (fun p => ((evalHelperExpr s args addr).toNat + p.2, p.1))
  | .copy dst src len => (List.range (evalHelperExpr s args len).toNat).map
      (fun i => ((evalHelperExpr s args dst).toNat + i, s.byteAt ((evalHelperExpr s args src).toNat + i)))
  | .fill dst len value => (List.range (evalHelperExpr s args len).toNat).map
      (fun i => ((evalHelperExpr s args dst).toNat + i, (evalHelperExpr s args value).truncate 8))
  | .scramble dst len => (List.range (evalHelperExpr s args len).toNat).map
      (fun i => ((evalHelperExpr s args dst).toNat + i,
        Config.helperByte s.draws ((evalHelperExpr s args dst).toNat + i)))

/-- A free answer (rule R262 (a)): a result and writes of which nothing is known. -/
def freeAnswer (s : State) (space : HelperSpace) (id : Int) (args : List Word) : HelperAnswer where
  result := Config.helperResult space id args s.mem s.draws
  cells := Config.helperWrites space id args s.mem s.draws

/-- What the helper answers to this call: its behaviour, applied to the values of R1 to Rk and the memory (rules R261,
R262 (a)). -/
def helperAnswer (s : State) (space : HelperSpace) (id : Int) (b : HelperBehaviour) (args : List Word) :
    HelperAnswer :=
  match b with
  | .free => freeAnswer s space id args
  | .computes result effects =>
    { result := evalHelperExpr s args result, cells := effects.flatMap (effectCells s args) }
  | .answers given => (given.lookup s.draws).getD (freeAnswer s space id args)

/-- What a helper call does to registers and memory (rule R262): R0 gets the result, R1 to R5 lose their values, and
bytes of regions change as the answer says; nothing else changes. -/
def applyHelper (s : State) (a : HelperAnswer) : State :=
  ({ s with mem := Memory.setCells s.mem (a.cells.filter (fun c => inSomeRegion s.cfg c.1)) }.write 0 a.result).clobber
    argRegs

/-- A helper call (rules R261 to R263): table look-up, argument reads, the helper, `pc + 1`. -/
def callHelperIn (space : HelperSpace) (imm : BitVec 32) (s : State) : Except Fault State :=
  match helperOf s.cfg space imm.toInt with
  | none => .error (.unknownHelper s.pc space imm.toInt)
  | some h => do
      let args ← readRegs s .arg (argRegs.take h.arity.val)
      advance (applyHelper s (helperAnswer s space imm.toInt h.behaviour args)) 1

/-! ## The call stack (rules R44, R264 to R266) -/

/-- The depth limit is reached (rules R264, R358). -/
def atDepthLimit (s : State) : Bool :=
  match s.cfg.maxCallDepth with
  | none => false
  | some d => decide (d ≤ s.callStack.length)

/-- The frame a BPF-local call saves (rule R264): R6 to R9 as they are, value or no value. -/
def callerFrame (s : State) (fp : Word) : Frame :=
  { retPc := s.pc + 1, s6 := s.reg 6, s7 := s.reg 7, s8 := s.reg 8, s9 := s.reg 9, s10 := fp }

/-- Entering a BPF-local function (rule R264): push the frame; R0 and R6 to R9 lose their values; R10 goes down by
FRAME_STRIDE. -/
def pushFrame (s : State) (fp : Word) : State :=
  ({ s with callStack := callerFrame s fp :: s.callStack }.clobber [0, 6, 7, 8, 9]).write 10 (fp - s.cfg.frameStride)

/-- Leaving one (rule R266): R6 to R10 come back from the frame, R1 to R5 lose their values, R0 passes through. -/
def popFrame (s : State) (fr : Frame) (rest : List Frame) : State :=
  (((((({ s with callStack := rest }.setReg 6 fr.s6).setReg 7 fr.s7).setReg 8 fr.s8).setReg 9 fr.s9).write 10
    fr.s10).clobber argRegs)

/-! ## Fetch, and loading a program -/

/-- Stages 1 and 2 of a step (rule R46): the slot at `pc`, the one after it, and the decode procedure. -/
def fetch (s : State) : Except Fault Instr :=
  match s.text[s.pc]? with
  | none => .error (.pcOutOfRange s.pc s.pc)
  | some w =>
    match decode s.cfg.localCallField w s.text[s.pc + 1]? with
    | .ok i => .ok i
    | .error _ => .error (.illegalInstruction s.pc w)

/-- The program size a platform accepts (rules R14, R382): at least one slot, at most PROGRAM_MAX_SLOTS. -/
def admitsSlots (c : Config) (n : Nat) : Bool :=
  decide (1 ≤ n) && (match c.programMaxSlots with | none => true | some k => decide (n ≤ k))

/-- The host loads and enters a program image (rules R382, R384): none when the image is not a whole number of slots
in the encoding of BYTE_ORDER or its size is not admitted. -/
def State.loadImage (cfg : Config) (image : List Byte) (mem : Memory) (env : List EnvStep) : Option State :=
  match imageWords cfg.byteOrder image with
  | none => none
  | some text => if admitsSlots cfg text.length then some (State.enter cfg text mem env) else none

end Sys2Proof.Machine
end

