-- ==== Sys2Proof/Machine/Operands.lean ====
section
/-! DEFINITION. Sys2Proof/Machine/Operands.lean: how immediates, offsets and registers become operands (rules R64,
R107, R108, R144). -/

namespace Sys2Proof.Machine

/-- `sext_64(imm)`: the operand of a 64-bit instruction with an immediate (rule R107 (b), (c), (e)). -/
def sextImm (imm : BitVec 32) : Word := imm.signExtend 64

/-- `sext_64(off)` (rules R64, R108). -/
def sextOff (off : BitVec 16) : Word := off.signExtend 64

/-- Bits 31:0 of a value: the operand of a 32-bit instruction (rule R34). -/
def low32 (v : Word) : BitVec 32 := v.truncate 32

/-- `zext_64`: the result of a 32-bit instruction (rules R34, R141). -/
def zext32 (v : BitVec 32) : Word := v.zeroExtend 64

/-- The effective address (rule R64): base plus sign-extended offset, modulo 2^64. -/
def effectiveAddr (base : Word) (off : BitVec 16) : Word := base + sextOff off

/-- The amount of a shift at width `w`, 32 or 64 (rule R144): the low bits of the operand, or, under
SHIFT_POLICY = refuse, `UnsupportedFeature(pc, shift_amount)` for an operand of `w` or more. -/
def shiftAmount (s : State) (w : Nat) (b : Nat) : Except Fault Nat :=
  match s.cfg.shiftPolicy with
  | .mask => .ok (b % w)
  | .refuse => if b < w then .ok b else .error (unsupported s .shiftAmount)

/-- The slot distance of a BPF-local call: the field LOCAL_CALL_FIELD names, sign-extended; none when the other field
is not zero (rule R264). -/
def localCallDistance (lcf : LocalCallField) (off : BitVec 16) (imm : BitVec 32) : Option Int :=
  if localCallUnusedZero lcf off imm then
    some (match lcf with
      | .offset => off.toInt
      | .imm => imm.toInt)
  else none

end Sys2Proof.Machine
end

