-- ==== Sys2Proof/Machine/Alu.lean ====
section
/-! DEFINITION. Sys2Proof/Machine/Alu.lean: arithmetic (rules R140 to R199), one definition per instruction over the shared
operations of this file. No arithmetic faults but by SHIFT_POLICY = refuse (rules R142, R144); there are no flags
(rule R41). -/

namespace Sys2Proof.Machine

/-- Addition modulo 2^w (rule R142). -/
def opAdd {w : Nat} (a b : BitVec w) : BitVec w := a + b

/-- Subtraction modulo 2^w (rule R142). -/
def opSub {w : Nat} (a b : BitVec w) : BitVec w := a - b

/-- Multiplication modulo 2^w (rule R142). -/
def opMul {w : Nat} (a b : BitVec w) : BitVec w := a * b

/-- Unsigned division rounding toward zero; 0 for a zero divisor (rule R143). -/
def opDiv {w : Nat} (a b : BitVec w) : BitVec w := if b = 0 then 0 else BitVec.ofNat w (a.toNat / b.toNat)

/-- Unsigned remainder; the dividend for a zero divisor (rule R143). -/
def opMod {w : Nat} (a b : BitVec w) : BitVec w := if b = 0 then a else BitVec.ofNat w (a.toNat % b.toNat)

/-- Bitwise or. -/
def opOr {w : Nat} (a b : BitVec w) : BitVec w := a ||| b

/-- Bitwise and. -/
def opAnd {w : Nat} (a b : BitVec w) : BitVec w := a &&& b

/-- Bitwise exclusive or. -/
def opXor {w : Nat} (a b : BitVec w) : BitVec w := a ^^^ b

/-- Negation in two's complement, `dst = -dst` (rule R146). -/
def opNeg {w : Nat} (a : BitVec w) : BitVec w := -a

/-- An operation of two operands; shifts can raise a fault (rule R144), so all answer `Except`. -/
abbrev AluOp (w : Nat) := State → BitVec w → BitVec w → Except Fault (BitVec w)

/-- An operation that never faults (rule R142). -/
def total {w : Nat} (f : BitVec w → BitVec w → BitVec w) : AluOp w := fun _ a b => .ok (f a b)

/-- Shift left; bits shifted out are lost (rules R142, R144). -/
def opLsh {w : Nat} : AluOp w := fun s a b => do
  let n ← shiftAmount s w b.toNat
  .ok (a <<< n)

/-- Logical shift right: zeros enter at the top (rule R144). -/
def opRsh {w : Nat} : AluOp w := fun s a b => do
  let n ← shiftAmount s w b.toNat
  .ok (a >>> n)

/-- Sign extending shift right: copies of the top bit enter (rule R144). -/
def opArsh {w : Nat} : AluOp w := fun s a b => do
  let n ← shiftAmount s w b.toNat
  .ok (a.sshiftRight n)

/-- 64-bit instruction with an immediate (rules R107 (b), R141, R148). -/
def aluK64 (f : AluOp 64) (d : Reg) (imm : BitVec 32) (s : State) : Host.Outcome State Fault Refusal :=
  settle s (do
    checkWritable s d
    let a ← readReg s .dst d
    let v ← f s a (sextImm imm)
    writeBack s d v)

/-- 64-bit instruction with a register operand (rules R141, R148). -/
def aluX64 (f : AluOp 64) (d r : Reg) (s : State) : Host.Outcome State Fault Refusal :=
  settle s (do
    checkWritable s d
    let a ← readReg s .dst d
    let b ← readReg s .src r
    let v ← f s a b
    writeBack s d v)

/-- 32-bit instruction with an immediate (rules R34, R107 (a), R145, R148): 32-bit operands, zero-extended result. -/
def aluK32 (f : AluOp 32) (d : Reg) (imm : BitVec 32) (s : State) : Host.Outcome State Fault Refusal :=
  settle s (do
    checkWritable s d
    let a ← readReg s .dst d
    let v ← f s (low32 a) imm
    writeBack s d (zext32 v))

/-- 32-bit instruction with a register operand (rules R34, R145, R148). -/
def aluX32 (f : AluOp 32) (d r : Reg) (s : State) : Host.Outcome State Fault Refusal :=
  settle s (do
    checkWritable s d
    let a ← readReg s .dst d
    let b ← readReg s .src r
    let v ← f s (low32 a) (low32 b)
    writeBack s d (zext32 v))

/-- `add32 rD, imm` (rule R150). -/
def execAdd32Imm (dst : Reg) (imm : BitVec 32) (s : State) : Host.Outcome State Fault Refusal :=
  aluK32 (total opAdd) dst imm s

/-- `add32 rD, rS` (rule R151). -/
def execAdd32Reg (dst src : Reg) (s : State) : Host.Outcome State Fault Refusal :=
  aluX32 (total opAdd) dst src s

/-- `add64 rD, imm` (rule R152). -/
def execAdd64Imm (dst : Reg) (imm : BitVec 32) (s : State) : Host.Outcome State Fault Refusal :=
  aluK64 (total opAdd) dst imm s

/-- `add64 rD, rS` (rule R153). -/
def execAdd64Reg (dst src : Reg) (s : State) : Host.Outcome State Fault Refusal :=
  aluX64 (total opAdd) dst src s

/-- `sub32 rD, imm` (rule R154). -/
def execSub32Imm (dst : Reg) (imm : BitVec 32) (s : State) : Host.Outcome State Fault Refusal :=
  aluK32 (total opSub) dst imm s

/-- `sub32 rD, rS` (rule R155). -/
def execSub32Reg (dst src : Reg) (s : State) : Host.Outcome State Fault Refusal :=
  aluX32 (total opSub) dst src s

/-- `sub64 rD, imm` (rule R156). -/
def execSub64Imm (dst : Reg) (imm : BitVec 32) (s : State) : Host.Outcome State Fault Refusal :=
  aluK64 (total opSub) dst imm s

/-- `sub64 rD, rS` (rule R157). -/
def execSub64Reg (dst src : Reg) (s : State) : Host.Outcome State Fault Refusal :=
  aluX64 (total opSub) dst src s

/-- `mul32 rD, imm` (rule R158). -/
def execMul32Imm (dst : Reg) (imm : BitVec 32) (s : State) : Host.Outcome State Fault Refusal :=
  aluK32 (total opMul) dst imm s

/-- `mul32 rD, rS` (rule R159). -/
def execMul32Reg (dst src : Reg) (s : State) : Host.Outcome State Fault Refusal :=
  aluX32 (total opMul) dst src s

/-- `mul64 rD, imm` (rule R160). -/
def execMul64Imm (dst : Reg) (imm : BitVec 32) (s : State) : Host.Outcome State Fault Refusal :=
  aluK64 (total opMul) dst imm s

/-- `mul64 rD, rS` (rule R161). -/
def execMul64Reg (dst src : Reg) (s : State) : Host.Outcome State Fault Refusal :=
  aluX64 (total opMul) dst src s

/-- `div32 rD, imm` (rule R162). -/
def execDiv32Imm (dst : Reg) (imm : BitVec 32) (s : State) : Host.Outcome State Fault Refusal :=
  aluK32 (total opDiv) dst imm s

/-- `div32 rD, rS` (rule R163). -/
def execDiv32Reg (dst src : Reg) (s : State) : Host.Outcome State Fault Refusal :=
  aluX32 (total opDiv) dst src s

/-- `div64 rD, imm` (rule R164). -/
def execDiv64Imm (dst : Reg) (imm : BitVec 32) (s : State) : Host.Outcome State Fault Refusal :=
  aluK64 (total opDiv) dst imm s

/-- `div64 rD, rS` (rule R165). -/
def execDiv64Reg (dst src : Reg) (s : State) : Host.Outcome State Fault Refusal :=
  aluX64 (total opDiv) dst src s

/-- `or32 rD, imm` (rule R166). -/
def execOr32Imm (dst : Reg) (imm : BitVec 32) (s : State) : Host.Outcome State Fault Refusal :=
  aluK32 (total opOr) dst imm s

/-- `or32 rD, rS` (rule R167). -/
def execOr32Reg (dst src : Reg) (s : State) : Host.Outcome State Fault Refusal :=
  aluX32 (total opOr) dst src s

/-- `or64 rD, imm` (rule R168). -/
def execOr64Imm (dst : Reg) (imm : BitVec 32) (s : State) : Host.Outcome State Fault Refusal :=
  aluK64 (total opOr) dst imm s

/-- `or64 rD, rS` (rule R169). -/
def execOr64Reg (dst src : Reg) (s : State) : Host.Outcome State Fault Refusal :=
  aluX64 (total opOr) dst src s

/-- `and32 rD, imm` (rule R170). -/
def execAnd32Imm (dst : Reg) (imm : BitVec 32) (s : State) : Host.Outcome State Fault Refusal :=
  aluK32 (total opAnd) dst imm s

/-- `and32 rD, rS` (rule R171). -/
def execAnd32Reg (dst src : Reg) (s : State) : Host.Outcome State Fault Refusal :=
  aluX32 (total opAnd) dst src s

/-- `and64 rD, imm` (rule R172). -/
def execAnd64Imm (dst : Reg) (imm : BitVec 32) (s : State) : Host.Outcome State Fault Refusal :=
  aluK64 (total opAnd) dst imm s

/-- `and64 rD, rS` (rule R173). -/
def execAnd64Reg (dst src : Reg) (s : State) : Host.Outcome State Fault Refusal :=
  aluX64 (total opAnd) dst src s

/-- `lsh32 rD, imm` (rule R174). -/
def execLsh32Imm (dst : Reg) (imm : BitVec 32) (s : State) : Host.Outcome State Fault Refusal :=
  aluK32 opLsh dst imm s

/-- `lsh32 rD, rS` (rule R175). -/
def execLsh32Reg (dst src : Reg) (s : State) : Host.Outcome State Fault Refusal :=
  aluX32 opLsh dst src s

/-- `lsh64 rD, imm` (rule R176). -/
def execLsh64Imm (dst : Reg) (imm : BitVec 32) (s : State) : Host.Outcome State Fault Refusal :=
  aluK64 opLsh dst imm s

/-- `lsh64 rD, rS` (rule R177). -/
def execLsh64Reg (dst src : Reg) (s : State) : Host.Outcome State Fault Refusal :=
  aluX64 opLsh dst src s

/-- `rsh32 rD, imm` (rule R178). -/
def execRsh32Imm (dst : Reg) (imm : BitVec 32) (s : State) : Host.Outcome State Fault Refusal :=
  aluK32 opRsh dst imm s

/-- `rsh32 rD, rS` (rule R179). -/
def execRsh32Reg (dst src : Reg) (s : State) : Host.Outcome State Fault Refusal :=
  aluX32 opRsh dst src s

/-- `rsh64 rD, imm` (rule R180). -/
def execRsh64Imm (dst : Reg) (imm : BitVec 32) (s : State) : Host.Outcome State Fault Refusal :=
  aluK64 opRsh dst imm s

/-- `rsh64 rD, rS` (rule R181). -/
def execRsh64Reg (dst src : Reg) (s : State) : Host.Outcome State Fault Refusal :=
  aluX64 opRsh dst src s

/-- `neg32 rD` (rule R182). -/
def execNeg32 (dst : Reg) (s : State) : Host.Outcome State Fault Refusal :=
  settle s (do
    checkWritable s dst
    let a ← readReg s .dst dst
    writeBack s dst (zext32 (opNeg (low32 a))))

/-- `neg64 rD` (rule R183). -/
def execNeg64 (dst : Reg) (s : State) : Host.Outcome State Fault Refusal :=
  settle s (do
    checkWritable s dst
    let a ← readReg s .dst dst
    writeBack s dst (opNeg a))

/-- `mod32 rD, imm` (rule R184). -/
def execMod32Imm (dst : Reg) (imm : BitVec 32) (s : State) : Host.Outcome State Fault Refusal :=
  aluK32 (total opMod) dst imm s

/-- `mod32 rD, rS` (rule R185). -/
def execMod32Reg (dst src : Reg) (s : State) : Host.Outcome State Fault Refusal :=
  aluX32 (total opMod) dst src s

/-- `mod64 rD, imm` (rule R186). -/
def execMod64Imm (dst : Reg) (imm : BitVec 32) (s : State) : Host.Outcome State Fault Refusal :=
  aluK64 (total opMod) dst imm s

/-- `mod64 rD, rS` (rule R187). -/
def execMod64Reg (dst src : Reg) (s : State) : Host.Outcome State Fault Refusal :=
  aluX64 (total opMod) dst src s

/-- `xor32 rD, imm` (rule R188). -/
def execXor32Imm (dst : Reg) (imm : BitVec 32) (s : State) : Host.Outcome State Fault Refusal :=
  aluK32 (total opXor) dst imm s

/-- `xor32 rD, rS` (rule R189). -/
def execXor32Reg (dst src : Reg) (s : State) : Host.Outcome State Fault Refusal :=
  aluX32 (total opXor) dst src s

/-- `xor64 rD, imm` (rule R190). -/
def execXor64Imm (dst : Reg) (imm : BitVec 32) (s : State) : Host.Outcome State Fault Refusal :=
  aluK64 (total opXor) dst imm s

/-- `xor64 rD, rS` (rule R191). -/
def execXor64Reg (dst src : Reg) (s : State) : Host.Outcome State Fault Refusal :=
  aluX64 (total opXor) dst src s

/-- `mov32 rD, imm` (rule R192). -/
def execMov32Imm (dst : Reg) (imm : BitVec 32) (s : State) : Host.Outcome State Fault Refusal :=
  settle s (do
    checkWritable s dst
    writeBack s dst (zext32 imm))

/-- `mov32 rD, rS` (rule R193). -/
def execMov32Reg (dst src : Reg) (s : State) : Host.Outcome State Fault Refusal :=
  settle s (do
    checkWritable s dst
    let b ← readReg s .src src
    writeBack s dst (zext32 (low32 b)))

/-- `mov64 rD, imm` (rule R194). -/
def execMov64Imm (dst : Reg) (imm : BitVec 32) (s : State) : Host.Outcome State Fault Refusal :=
  settle s (do
    checkWritable s dst
    writeBack s dst (sextImm imm))

/-- `mov64 rD, rS` (rule R195). -/
def execMov64Reg (dst src : Reg) (s : State) : Host.Outcome State Fault Refusal :=
  settle s (do
    checkWritable s dst
    let b ← readReg s .src src
    writeBack s dst b)

/-- `arsh32 rD, imm` (rule R196). -/
def execArsh32Imm (dst : Reg) (imm : BitVec 32) (s : State) : Host.Outcome State Fault Refusal :=
  aluK32 opArsh dst imm s

/-- `arsh32 rD, rS` (rule R197). -/
def execArsh32Reg (dst src : Reg) (s : State) : Host.Outcome State Fault Refusal :=
  aluX32 opArsh dst src s

/-- `arsh64 rD, imm` (rule R198). -/
def execArsh64Imm (dst : Reg) (imm : BitVec 32) (s : State) : Host.Outcome State Fault Refusal :=
  aluK64 opArsh dst imm s

/-- `arsh64 rD, rS` (rule R199). -/
def execArsh64Reg (dst src : Reg) (s : State) : Host.Outcome State Fault Refusal :=
  aluX64 opArsh dst src s

end Sys2Proof.Machine
end

