-- ==== Sys2Proof/Machine/Atomic.lean ====
section
/-! DEFINITION. Sys2Proof/Machine/Atomic.lean: the atomic instructions (rules R290 to R313): each is one `AtomicRMW` in one
step (rules R77, R82, R290). -/

namespace Sys2Proof.Machine

/-- An update of a memory operand by a register operand; the result is what is stored. -/
abbrev AtomicOp := Word → Word → Word

/-- The 32-bit form of an update: bits 31:0 of both operands (rule R292). -/
def on32 (f : BitVec 32 → BitVec 32 → BitVec 32) : AtomicOp := fun old v => zext32 (f (low32 old) (low32 v))

/-- Atomic addition modulo 2^w (rule R291). -/
def atomicAdd {w : Nat} (old v : BitVec w) : BitVec w := old + v

/-- Atomic bitwise or. -/
def atomicOr {w : Nat} (old v : BitVec w) : BitVec w := old ||| v

/-- Atomic bitwise and. -/
def atomicAnd {w : Nat} (old v : BitVec w) : BitVec w := old &&& v

/-- Atomic bitwise exclusive or. -/
def atomicXor {w : Nat} (old v : BitVec w) : BitVec w := old ^^^ v

/-- Atomic exchange: the register operand replaces the memory operand (rule R292). -/
def atomicXchg {w : Nat} (_old v : BitVec w) : BitVec w := v

/-- A simple atomic operation without BPF_FETCH (rules R291, R293): no register is written. -/
def atomicSimple (n : Nat) (f : AtomicOp) (d r : Reg) (off : BitVec 16) (s : State) :
    Host.Outcome State Fault Refusal :=
  settle s (do
    let base ← readReg s .dst d
    let v ← readReg s .src r
    let p ← atomicRMW s (effectiveAddr base off) n (fun old => some (f old v))
    advance p.2 1)

/-- An atomic operation with BPF_FETCH other than compare-and-exchange (rules R291 to R293): R[src] receives the
value before the update, zero-extended. -/
def atomicFetch (n : Nat) (f : AtomicOp) (d r : Reg) (off : BitVec 16) (s : State) :
    Host.Outcome State Fault Refusal :=
  settle s (do
    checkWritable s r
    let base ← readReg s .dst d
    let v ← readReg s .src r
    let p ← atomicRMW s (effectiveAddr base off) n (fun old => some (f old v))
    writeBack p.2 r p.1)

/-- Compare-and-exchange (rules R292, R293, R303, R313): `same` compares the memory operand with R0; on a match the
memory operand is replaced by R[src]; in either case R0 receives the old value, zero-extended. -/
def atomicCompare (n : Nat) (same : Word → Word → Bool) (d r : Reg) (off : BitVec 16) (s : State) :
    Host.Outcome State Fault Refusal :=
  settle s (do
    let base ← readReg s .dst d
    let v ← readReg s .src r
    let c ← readReg s .r0 0
    let p ← atomicRMW s (effectiveAddr base off) n (fun old => if same old c then some v else none)
    writeBack p.2 0 p.1)

/-- `atomic_add32 [rD+off], rS` (rule R294). -/
def execAtomicAdd32 (dst src : Reg) (off : BitVec 16) (s : State) : Host.Outcome State Fault Refusal :=
  atomicSimple 4 (on32 atomicAdd) dst src off s

/-- `atomic_fetch_add32 [rD+off], rS` (rule R295). -/
def execAtomicFetchAdd32 (dst src : Reg) (off : BitVec 16) (s : State) : Host.Outcome State Fault Refusal :=
  atomicFetch 4 (on32 atomicAdd) dst src off s

/-- `atomic_or32 [rD+off], rS` (rule R296). -/
def execAtomicOr32 (dst src : Reg) (off : BitVec 16) (s : State) : Host.Outcome State Fault Refusal :=
  atomicSimple 4 (on32 atomicOr) dst src off s

/-- `atomic_fetch_or32 [rD+off], rS` (rule R297). -/
def execAtomicFetchOr32 (dst src : Reg) (off : BitVec 16) (s : State) : Host.Outcome State Fault Refusal :=
  atomicFetch 4 (on32 atomicOr) dst src off s

/-- `atomic_and32 [rD+off], rS` (rule R298). -/
def execAtomicAnd32 (dst src : Reg) (off : BitVec 16) (s : State) : Host.Outcome State Fault Refusal :=
  atomicSimple 4 (on32 atomicAnd) dst src off s

/-- `atomic_fetch_and32 [rD+off], rS` (rule R299). -/
def execAtomicFetchAnd32 (dst src : Reg) (off : BitVec 16) (s : State) : Host.Outcome State Fault Refusal :=
  atomicFetch 4 (on32 atomicAnd) dst src off s

/-- `atomic_xor32 [rD+off], rS` (rule R300). -/
def execAtomicXor32 (dst src : Reg) (off : BitVec 16) (s : State) : Host.Outcome State Fault Refusal :=
  atomicSimple 4 (on32 atomicXor) dst src off s

/-- `atomic_fetch_xor32 [rD+off], rS` (rule R301). -/
def execAtomicFetchXor32 (dst src : Reg) (off : BitVec 16) (s : State) : Host.Outcome State Fault Refusal :=
  atomicFetch 4 (on32 atomicXor) dst src off s

/-- `atomic_xchg32 [rD+off], rS` (rule R302). -/
def execAtomicXchg32 (dst src : Reg) (off : BitVec 16) (s : State) : Host.Outcome State Fault Refusal :=
  atomicFetch 4 (on32 atomicXchg) dst src off s

/-- `atomic_cmpxchg32 [rD+off], rS` (rule R303). -/
def execAtomicCmpxchg32 (dst src : Reg) (off : BitVec 16) (s : State) : Host.Outcome State Fault Refusal :=
  atomicCompare 4 (fun old c => low32 old == low32 c) dst src off s

/-- `atomic_add64 [rD+off], rS` (rule R304). -/
def execAtomicAdd64 (dst src : Reg) (off : BitVec 16) (s : State) : Host.Outcome State Fault Refusal :=
  atomicSimple 8 atomicAdd dst src off s

/-- `atomic_fetch_add64 [rD+off], rS` (rule R305). -/
def execAtomicFetchAdd64 (dst src : Reg) (off : BitVec 16) (s : State) : Host.Outcome State Fault Refusal :=
  atomicFetch 8 atomicAdd dst src off s

/-- `atomic_or64 [rD+off], rS` (rule R306). -/
def execAtomicOr64 (dst src : Reg) (off : BitVec 16) (s : State) : Host.Outcome State Fault Refusal :=
  atomicSimple 8 atomicOr dst src off s

/-- `atomic_fetch_or64 [rD+off], rS` (rule R307). -/
def execAtomicFetchOr64 (dst src : Reg) (off : BitVec 16) (s : State) : Host.Outcome State Fault Refusal :=
  atomicFetch 8 atomicOr dst src off s

/-- `atomic_and64 [rD+off], rS` (rule R308). -/
def execAtomicAnd64 (dst src : Reg) (off : BitVec 16) (s : State) : Host.Outcome State Fault Refusal :=
  atomicSimple 8 atomicAnd dst src off s

/-- `atomic_fetch_and64 [rD+off], rS` (rule R309). -/
def execAtomicFetchAnd64 (dst src : Reg) (off : BitVec 16) (s : State) : Host.Outcome State Fault Refusal :=
  atomicFetch 8 atomicAnd dst src off s

/-- `atomic_xor64 [rD+off], rS` (rule R310). -/
def execAtomicXor64 (dst src : Reg) (off : BitVec 16) (s : State) : Host.Outcome State Fault Refusal :=
  atomicSimple 8 atomicXor dst src off s

/-- `atomic_fetch_xor64 [rD+off], rS` (rule R311). -/
def execAtomicFetchXor64 (dst src : Reg) (off : BitVec 16) (s : State) : Host.Outcome State Fault Refusal :=
  atomicFetch 8 atomicXor dst src off s

/-- `atomic_xchg64 [rD+off], rS` (rule R312). -/
def execAtomicXchg64 (dst src : Reg) (off : BitVec 16) (s : State) : Host.Outcome State Fault Refusal :=
  atomicFetch 8 atomicXchg dst src off s

/-- `atomic_cmpxchg64 [rD+off], rS` (rule R313). -/
def execAtomicCmpxchg64 (dst src : Reg) (off : BitVec 16) (s : State) : Host.Outcome State Fault Refusal :=
  atomicCompare 8 (fun old c => old == c) dst src off s

end Sys2Proof.Machine
end

