-- ==== Sys2Proof/Machine/ByteSwap.lean ====
section
/-! DEFINITION. Sys2Proof/Machine/ByteSwap.lean: the six byte swaps (rules R200 to R206). -/

namespace Sys2Proof.Machine

/-- The low `n` bytes of a value, zero-extended (rule R200). -/
def lowBytes (n : Nat) (v : Word) : Word := BitVec.ofNat 64 (v.toNat % 2 ^ (8 * n))

/-- `bswap` of the low `n` bytes of a value, zero-extended (rules R17, R200). -/
def reverseBytes (n : Nat) (v : Word) : Word := joinLow (splitLow v n).reverse

/-- Convert the low `n` bytes of R[dst] from the host's byte order to the target order, and zero-extend (rule R200). -/
def swapTo (target : ByteOrder) (n : Nat) (d : Reg) (s : State) : Host.Outcome State Fault Refusal :=
  settle s (do
    checkWritable s d
    let a ← readReg s .dst d
    writeBack s d (if s.cfg.byteOrder = target then lowBytes n a else reverseBytes n a))

/-- `le16 rD` (rule R201). -/
def execLe16 (dst : Reg) (s : State) : Host.Outcome State Fault Refusal :=
  swapTo .le 2 dst s

/-- `le32 rD` (rule R202). -/
def execLe32 (dst : Reg) (s : State) : Host.Outcome State Fault Refusal :=
  swapTo .le 4 dst s

/-- `le64 rD` (rule R203). -/
def execLe64 (dst : Reg) (s : State) : Host.Outcome State Fault Refusal :=
  swapTo .le 8 dst s

/-- `be16 rD` (rule R204). -/
def execBe16 (dst : Reg) (s : State) : Host.Outcome State Fault Refusal :=
  swapTo .be 2 dst s

/-- `be32 rD` (rule R205). -/
def execBe32 (dst : Reg) (s : State) : Host.Outcome State Fault Refusal :=
  swapTo .be 4 dst s

/-- `be64 rD` (rule R206). -/
def execBe64 (dst : Reg) (s : State) : Host.Outcome State Fault Refusal :=
  swapTo .be 8 dst s

end Sys2Proof.Machine
end

