-- ==== Sys2Proof/Machine/Call.lean ====
section
/-! DEFINITION. Sys2Proof/Machine/Call.lean: calls and exit (rules R260 to R267). -/

namespace Sys2Proof.Machine

/-- `call_helper imm` (rule R261). -/
def execCallHelper (imm : BitVec 32) (s : State) : Host.Outcome State Fault Refusal :=
  settle s (callHelperIn .agnostic imm s)

/-- `call_local +off` (rule R264). -/
def execCallLocal (off : BitVec 16) (imm : BitVec 32) (s : State) : Host.Outcome State Fault Refusal :=
  settle s (
    match localCallDistance s.cfg.localCallField off imm with
    | none => .error (illegalHere s)
    | some distance => do
        let fp ← readReg s .frame 10
        if atDepthLimit s then .error (.callDepthExceeded s.pc)
        else goTo (pushFrame s fp) (jumpTarget s distance))

/-- `call_platform imm` (rule R263). -/
def execCallPlatform (imm : BitVec 32) (s : State) : Host.Outcome State Fault Refusal :=
  settle s (if s.cfg.hasPlatformHelpers then callHelperIn .platform imm s
    else .error (unsupported s .platformHelper))

/-- `exit` (rule R266). -/
def execExit (s : State) : Host.Outcome State Fault Refusal :=
  settle s (
    match s.callStack with
    | [] => do
        let v ← readReg s .r0 0
        .ok { s with status := .exited v }
    | fr :: rest => goTo (popFrame s fr rest) fr.retPc)

end Sys2Proof.Machine
end

