-- ==== Sys2Proof/Machine/Imm64.lean ====
section
/-! DEFINITION. Sys2Proof/Machine/Imm64.lean: the wide instructions (rules R320 to R329). They read no register and access no
data memory; subtypes 1 to 6 ask the platform for an address (rule R320). -/

namespace Sys2Proof.Machine

/-- Write the register and go on after both slots (rules R39, R320). -/
def wideResult (d : Reg) (v : Word) (s : State) : Except Fault State := advance (s.write d v) 2

/-- A wide instruction of subtype 1 to 6 (rule R320): `UnsupportedFeature` where the feature switch is off or the
platform does not define the address. -/
def wideAddress (what : Feature) (enabled : Bool) (d : Reg) (address : Option Word) (s : State) :
    Host.Outcome State Fault Refusal :=
  settle s (do
    checkWritable s d
    match enabled, address with
    | true, some v => wideResult d v s
    | _, _ => .error (unsupported s what))

/-- `mva(map) + next_imm` (rules R323, R327): `next_imm` is an unsigned byte offset; the sum wraps. -/
def mapValueAddr (c : Config) (map : Option Word) (nextImm : BitVec 32) : Option Word := do
  let m ← map
  let base ← c.mva.lookup m
  some (base + nextImm.zeroExtend 64)

/-- `code_addr` (rule R325): the code pointer of the slot `pc + 1 + sext_64(imm)`; undefined outside the program and
on the second slot of a wide instruction. -/
def codeAddr (s : State) (imm : BitVec 32) : Option Word :=
  let target := jumpTarget s imm.toInt
  if 0 ≤ target ∧ target < s.text.length then
    if isSecondSlot s.text target.toNat then none else s.cfg.codeAddr.lookup target.toNat
  else none

/-- `lddw rD, imm64` (rule R321). -/
def execLddw (dst : Reg) (imm nextImm : BitVec 32) (s : State) : Host.Outcome State Fault Refusal :=
  settle s (do
    checkWritable s dst
    wideResult dst (nextImm ++ imm) s)

/-- `ld_map_fd rD, imm` (rule R322). -/
def execLdMapFd (dst : Reg) (imm : BitVec 32) (s : State) : Host.Outcome State Fault Refusal :=
  wideAddress .ldMapFd (s.cfg.hasMaps && s.cfg.hasMapFd) dst (s.cfg.mapByFd.lookup imm) s

/-- `ld_map_fd_value rD, imm, next_imm` (rule R323). -/
def execLdMapFdValue (dst : Reg) (imm nextImm : BitVec 32) (s : State) : Host.Outcome State Fault Refusal :=
  wideAddress .ldMapFdValue (s.cfg.hasMaps && s.cfg.hasMapFd) dst
    (mapValueAddr s.cfg (s.cfg.mapByFd.lookup imm) nextImm) s

/-- `ld_var_addr rD, imm` (rule R324). -/
def execLdVarAddr (dst : Reg) (imm : BitVec 32) (s : State) : Host.Outcome State Fault Refusal :=
  wideAddress .ldVarAddr s.cfg.hasVariables dst (s.cfg.variableAddr.lookup imm) s

/-- `ld_code_addr rD, imm` (rule R325). -/
def execLdCodeAddr (dst : Reg) (imm : BitVec 32) (s : State) : Host.Outcome State Fault Refusal :=
  wideAddress .ldCodeAddr true dst (codeAddr s imm) s

/-- `ld_map_idx rD, imm` (rule R326). -/
def execLdMapIdx (dst : Reg) (imm : BitVec 32) (s : State) : Host.Outcome State Fault Refusal :=
  wideAddress .ldMapIdx s.cfg.hasMaps dst (s.cfg.mapByIdx.lookup imm) s

/-- `ld_map_idx_value rD, imm, next_imm` (rule R327). -/
def execLdMapIdxValue (dst : Reg) (imm nextImm : BitVec 32) (s : State) : Host.Outcome State Fault Refusal :=
  wideAddress .ldMapIdxValue s.cfg.hasMaps dst
    (mapValueAddr s.cfg (s.cfg.mapByIdx.lookup imm) nextImm) s

end Sys2Proof.Machine
end

