-- ==== Sys2Proof/Machine/Flags.lean ====
section
/-! DEFINITION. Sys2Proof/Machine/Flags.lean: "There are no status flags, condition codes or predicates" (rule R41).
What other machines compute into flags is here the condition of a conditional jump, on its two operands (rules R103,
R212): one definition per code, at either width. -/

namespace Sys2Proof.Machine

/-- BPF_JEQ (rule R212): the bit patterns are equal. -/
def condEq {w : Nat} (a b : BitVec w) : Bool := a == b

/-- BPF_JGT, unsigned. -/
def condGt {w : Nat} (a b : BitVec w) : Bool := b.ult a

/-- BPF_JGE, unsigned. -/
def condGe {w : Nat} (a b : BitVec w) : Bool := b.ule a

/-- BPF_JSET: `dst & src` is not zero. -/
def condSet {w : Nat} (a b : BitVec w) : Bool := a &&& b != 0

/-- BPF_JNE (rule R212): the bit patterns differ. -/
def condNe {w : Nat} (a b : BitVec w) : Bool := a != b

/-- BPF_JSGT, signed. -/
def condSgt {w : Nat} (a b : BitVec w) : Bool := b.slt a

/-- BPF_JSGE, signed. -/
def condSge {w : Nat} (a b : BitVec w) : Bool := b.sle a

/-- BPF_JLT, unsigned. -/
def condLt {w : Nat} (a b : BitVec w) : Bool := a.ult b

/-- BPF_JLE, unsigned. -/
def condLe {w : Nat} (a b : BitVec w) : Bool := a.ule b

/-- BPF_JSLT, signed. -/
def condSlt {w : Nat} (a b : BitVec w) : Bool := a.slt b

/-- BPF_JSLE, signed. -/
def condSle {w : Nat} (a b : BitVec w) : Bool := a.sle b

end Sys2Proof.Machine
end

