-- ==== Sys2Proof/Machine/Jump.lean ====
section
/-! DEFINITION. Sys2Proof/Machine/Jump.lean: the jumps (rules R210 to R259). A jump writes no register and no memory; a
conditional jump reads both operands whatever the first alone would decide (rule R214). -/

namespace Sys2Proof.Machine

/-- The new `pc` of a conditional jump (rules R39, R211, R214): taken or not, it is checked. -/
def branch (s : State) (taken : Bool) (off : BitVec 16) : Except Fault State :=
  if taken then goTo s (jumpTarget s off.toInt) else advance s 1

/-- Class BPF_JMP with an immediate, sign-extended (rule R212). -/
def jccK64 (c : Word → Word → Bool) (d : Reg) (imm : BitVec 32) (off : BitVec 16) (s : State) :
    Host.Outcome State Fault Refusal :=
  settle s (do
    let a ← readReg s .dst d
    branch s (c a (sextImm imm)) off)

/-- Class BPF_JMP with a register operand (rule R212). -/
def jccX64 (c : Word → Word → Bool) (d r : Reg) (off : BitVec 16) (s : State) : Host.Outcome State Fault Refusal :=
  settle s (do
    let a ← readReg s .dst d
    let b ← readReg s .src r
    branch s (c a b) off)

/-- Class BPF_JMP32 with an immediate (rule R212): bits 31:0 of the register, the 32 bits of the immediate. -/
def jccK32 (c : BitVec 32 → BitVec 32 → Bool) (d : Reg) (imm : BitVec 32) (off : BitVec 16) (s : State) :
    Host.Outcome State Fault Refusal :=
  settle s (do
    let a ← readReg s .dst d
    branch s (c (low32 a) imm) off)

/-- Class BPF_JMP32 with a register operand (rule R212). -/
def jccX32 (c : BitVec 32 → BitVec 32 → Bool) (d r : Reg) (off : BitVec 16) (s : State) :
    Host.Outcome State Fault Refusal :=
  settle s (do
    let a ← readReg s .dst d
    let b ← readReg s .src r
    branch s (c (low32 a) (low32 b)) off)

/-- `ja +off` (rule R215). -/
def execJa (off : BitVec 16) (s : State) : Host.Outcome State Fault Refusal :=
  settle s (goTo s (jumpTarget s off.toInt))

/-- `jeq64 rD, imm, +off` (rule R216). -/
def execJeq64Imm (dst : Reg) (imm : BitVec 32) (off : BitVec 16) (s : State) : Host.Outcome State Fault Refusal :=
  jccK64 condEq dst imm off s

/-- `jeq64 rD, rS, +off` (rule R217). -/
def execJeq64Reg (dst src : Reg) (off : BitVec 16) (s : State) : Host.Outcome State Fault Refusal :=
  jccX64 condEq dst src off s

/-- `jeq32 rD, imm, +off` (rule R218). -/
def execJeq32Imm (dst : Reg) (imm : BitVec 32) (off : BitVec 16) (s : State) : Host.Outcome State Fault Refusal :=
  jccK32 condEq dst imm off s

/-- `jeq32 rD, rS, +off` (rule R219). -/
def execJeq32Reg (dst src : Reg) (off : BitVec 16) (s : State) : Host.Outcome State Fault Refusal :=
  jccX32 condEq dst src off s

/-- `jgt64 rD, imm, +off` (rule R220). -/
def execJgt64Imm (dst : Reg) (imm : BitVec 32) (off : BitVec 16) (s : State) : Host.Outcome State Fault Refusal :=
  jccK64 condGt dst imm off s

/-- `jgt64 rD, rS, +off` (rule R221). -/
def execJgt64Reg (dst src : Reg) (off : BitVec 16) (s : State) : Host.Outcome State Fault Refusal :=
  jccX64 condGt dst src off s

/-- `jgt32 rD, imm, +off` (rule R222). -/
def execJgt32Imm (dst : Reg) (imm : BitVec 32) (off : BitVec 16) (s : State) : Host.Outcome State Fault Refusal :=
  jccK32 condGt dst imm off s

/-- `jgt32 rD, rS, +off` (rule R223). -/
def execJgt32Reg (dst src : Reg) (off : BitVec 16) (s : State) : Host.Outcome State Fault Refusal :=
  jccX32 condGt dst src off s

/-- `jge64 rD, imm, +off` (rule R224). -/
def execJge64Imm (dst : Reg) (imm : BitVec 32) (off : BitVec 16) (s : State) : Host.Outcome State Fault Refusal :=
  jccK64 condGe dst imm off s

/-- `jge64 rD, rS, +off` (rule R225). -/
def execJge64Reg (dst src : Reg) (off : BitVec 16) (s : State) : Host.Outcome State Fault Refusal :=
  jccX64 condGe dst src off s

/-- `jge32 rD, imm, +off` (rule R226). -/
def execJge32Imm (dst : Reg) (imm : BitVec 32) (off : BitVec 16) (s : State) : Host.Outcome State Fault Refusal :=
  jccK32 condGe dst imm off s

/-- `jge32 rD, rS, +off` (rule R227). -/
def execJge32Reg (dst src : Reg) (off : BitVec 16) (s : State) : Host.Outcome State Fault Refusal :=
  jccX32 condGe dst src off s

/-- `jset64 rD, imm, +off` (rule R228). -/
def execJset64Imm (dst : Reg) (imm : BitVec 32) (off : BitVec 16) (s : State) : Host.Outcome State Fault Refusal :=
  jccK64 condSet dst imm off s

/-- `jset64 rD, rS, +off` (rule R229). -/
def execJset64Reg (dst src : Reg) (off : BitVec 16) (s : State) : Host.Outcome State Fault Refusal :=
  jccX64 condSet dst src off s

/-- `jset32 rD, imm, +off` (rule R230). -/
def execJset32Imm (dst : Reg) (imm : BitVec 32) (off : BitVec 16) (s : State) : Host.Outcome State Fault Refusal :=
  jccK32 condSet dst imm off s

/-- `jset32 rD, rS, +off` (rule R231). -/
def execJset32Reg (dst src : Reg) (off : BitVec 16) (s : State) : Host.Outcome State Fault Refusal :=
  jccX32 condSet dst src off s

/-- `jne64 rD, imm, +off` (rule R232). -/
def execJne64Imm (dst : Reg) (imm : BitVec 32) (off : BitVec 16) (s : State) : Host.Outcome State Fault Refusal :=
  jccK64 condNe dst imm off s

/-- `jne64 rD, rS, +off` (rule R233). -/
def execJne64Reg (dst src : Reg) (off : BitVec 16) (s : State) : Host.Outcome State Fault Refusal :=
  jccX64 condNe dst src off s

/-- `jne32 rD, imm, +off` (rule R234). -/
def execJne32Imm (dst : Reg) (imm : BitVec 32) (off : BitVec 16) (s : State) : Host.Outcome State Fault Refusal :=
  jccK32 condNe dst imm off s

/-- `jne32 rD, rS, +off` (rule R235). -/
def execJne32Reg (dst src : Reg) (off : BitVec 16) (s : State) : Host.Outcome State Fault Refusal :=
  jccX32 condNe dst src off s

/-- `jsgt64 rD, imm, +off` (rule R236). -/
def execJsgt64Imm (dst : Reg) (imm : BitVec 32) (off : BitVec 16) (s : State) : Host.Outcome State Fault Refusal :=
  jccK64 condSgt dst imm off s

/-- `jsgt64 rD, rS, +off` (rule R237). -/
def execJsgt64Reg (dst src : Reg) (off : BitVec 16) (s : State) : Host.Outcome State Fault Refusal :=
  jccX64 condSgt dst src off s

/-- `jsgt32 rD, imm, +off` (rule R238). -/
def execJsgt32Imm (dst : Reg) (imm : BitVec 32) (off : BitVec 16) (s : State) : Host.Outcome State Fault Refusal :=
  jccK32 condSgt dst imm off s

/-- `jsgt32 rD, rS, +off` (rule R239). -/
def execJsgt32Reg (dst src : Reg) (off : BitVec 16) (s : State) : Host.Outcome State Fault Refusal :=
  jccX32 condSgt dst src off s

/-- `jsge64 rD, imm, +off` (rule R240). -/
def execJsge64Imm (dst : Reg) (imm : BitVec 32) (off : BitVec 16) (s : State) : Host.Outcome State Fault Refusal :=
  jccK64 condSge dst imm off s

/-- `jsge64 rD, rS, +off` (rule R241). -/
def execJsge64Reg (dst src : Reg) (off : BitVec 16) (s : State) : Host.Outcome State Fault Refusal :=
  jccX64 condSge dst src off s

/-- `jsge32 rD, imm, +off` (rule R242). -/
def execJsge32Imm (dst : Reg) (imm : BitVec 32) (off : BitVec 16) (s : State) : Host.Outcome State Fault Refusal :=
  jccK32 condSge dst imm off s

/-- `jsge32 rD, rS, +off` (rule R243). -/
def execJsge32Reg (dst src : Reg) (off : BitVec 16) (s : State) : Host.Outcome State Fault Refusal :=
  jccX32 condSge dst src off s

/-- `jlt64 rD, imm, +off` (rule R244). -/
def execJlt64Imm (dst : Reg) (imm : BitVec 32) (off : BitVec 16) (s : State) : Host.Outcome State Fault Refusal :=
  jccK64 condLt dst imm off s

/-- `jlt64 rD, rS, +off` (rule R245). -/
def execJlt64Reg (dst src : Reg) (off : BitVec 16) (s : State) : Host.Outcome State Fault Refusal :=
  jccX64 condLt dst src off s

/-- `jlt32 rD, imm, +off` (rule R246). -/
def execJlt32Imm (dst : Reg) (imm : BitVec 32) (off : BitVec 16) (s : State) : Host.Outcome State Fault Refusal :=
  jccK32 condLt dst imm off s

/-- `jlt32 rD, rS, +off` (rule R247). -/
def execJlt32Reg (dst src : Reg) (off : BitVec 16) (s : State) : Host.Outcome State Fault Refusal :=
  jccX32 condLt dst src off s

/-- `jle64 rD, imm, +off` (rule R248). -/
def execJle64Imm (dst : Reg) (imm : BitVec 32) (off : BitVec 16) (s : State) : Host.Outcome State Fault Refusal :=
  jccK64 condLe dst imm off s

/-- `jle64 rD, rS, +off` (rule R249). -/
def execJle64Reg (dst src : Reg) (off : BitVec 16) (s : State) : Host.Outcome State Fault Refusal :=
  jccX64 condLe dst src off s

/-- `jle32 rD, imm, +off` (rule R250). -/
def execJle32Imm (dst : Reg) (imm : BitVec 32) (off : BitVec 16) (s : State) : Host.Outcome State Fault Refusal :=
  jccK32 condLe dst imm off s

/-- `jle32 rD, rS, +off` (rule R251). -/
def execJle32Reg (dst src : Reg) (off : BitVec 16) (s : State) : Host.Outcome State Fault Refusal :=
  jccX32 condLe dst src off s

/-- `jslt64 rD, imm, +off` (rule R252). -/
def execJslt64Imm (dst : Reg) (imm : BitVec 32) (off : BitVec 16) (s : State) : Host.Outcome State Fault Refusal :=
  jccK64 condSlt dst imm off s

/-- `jslt64 rD, rS, +off` (rule R253). -/
def execJslt64Reg (dst src : Reg) (off : BitVec 16) (s : State) : Host.Outcome State Fault Refusal :=
  jccX64 condSlt dst src off s

/-- `jslt32 rD, imm, +off` (rule R254). -/
def execJslt32Imm (dst : Reg) (imm : BitVec 32) (off : BitVec 16) (s : State) : Host.Outcome State Fault Refusal :=
  jccK32 condSlt dst imm off s

/-- `jslt32 rD, rS, +off` (rule R255). -/
def execJslt32Reg (dst src : Reg) (off : BitVec 16) (s : State) : Host.Outcome State Fault Refusal :=
  jccX32 condSlt dst src off s

/-- `jsle64 rD, imm, +off` (rule R256). -/
def execJsle64Imm (dst : Reg) (imm : BitVec 32) (off : BitVec 16) (s : State) : Host.Outcome State Fault Refusal :=
  jccK64 condSle dst imm off s

/-- `jsle64 rD, rS, +off` (rule R257). -/
def execJsle64Reg (dst src : Reg) (off : BitVec 16) (s : State) : Host.Outcome State Fault Refusal :=
  jccX64 condSle dst src off s

/-- `jsle32 rD, imm, +off` (rule R258). -/
def execJsle32Imm (dst : Reg) (imm : BitVec 32) (off : BitVec 16) (s : State) : Host.Outcome State Fault Refusal :=
  jccK32 condSle dst imm off s

/-- `jsle32 rD, rS, +off` (rule R259). -/
def execJsle32Reg (dst src : Reg) (off : BitVec 16) (s : State) : Host.Outcome State Fault Refusal :=
  jccX32 condSle dst src off s

end Sys2Proof.Machine
end

