-- ==== Sys2Proof/Machine/Legacy.lean ====
section
/-! DEFINITION. Sys2Proof/Machine/Legacy.lean: the eight legacy packet opcodes (rules R335 to R343). "raise
UnsupportedFeature(pc, legacy_packet)", whatever HAS_LEGACY_PACKET says: the fault is the meaning the spec gives them. -/

namespace Sys2Proof.Machine

/-- The legacy opcodes: no field but the opcode is examined, no state but the status changes (rule R335). -/
def legacyPacket (s : State) : Host.Outcome State Fault Refusal := settle s (.error (unsupported s .legacyPacket))

/-- `ldabsw (refused)` (rule R336). -/
def execLdabsw (_rest : BitVec 56) (s : State) : Host.Outcome State Fault Refusal :=
  legacyPacket s

/-- `ldabsh (refused)` (rule R337). -/
def execLdabsh (_rest : BitVec 56) (s : State) : Host.Outcome State Fault Refusal :=
  legacyPacket s

/-- `ldabsb (refused)` (rule R338). -/
def execLdabsb (_rest : BitVec 56) (s : State) : Host.Outcome State Fault Refusal :=
  legacyPacket s

/-- `ldabsdw (refused)` (rule R339). -/
def execLdabsdw (_rest : BitVec 56) (s : State) : Host.Outcome State Fault Refusal :=
  legacyPacket s

/-- `ldindw (refused)` (rule R340). -/
def execLdindw (_rest : BitVec 56) (s : State) : Host.Outcome State Fault Refusal :=
  legacyPacket s

/-- `ldindh (refused)` (rule R341). -/
def execLdindh (_rest : BitVec 56) (s : State) : Host.Outcome State Fault Refusal :=
  legacyPacket s

/-- `ldindb (refused)` (rule R342). -/
def execLdindb (_rest : BitVec 56) (s : State) : Host.Outcome State Fault Refusal :=
  legacyPacket s

/-- `ldinddw (refused)` (rule R343). -/
def execLdinddw (_rest : BitVec 56) (s : State) : Host.Outcome State Fault Refusal :=
  legacyPacket s

end Sys2Proof.Machine
end

