-- ==== Sys2Proof/Machine/LoadStore.lean ====
section
/-! DEFINITION. Sys2Proof/Machine/LoadStore.lean: regular loads and stores (rules R270 to R283): registers read, base
first, then the access, then `pc + 1` (rule R271). -/

namespace Sys2Proof.Machine

/-- BPF_LDX at `n` bytes: the loaded value is zero-extended (rule R270). -/
def loadInto (n : Nat) (d r : Reg) (off : BitVec 16) (s : State) : Host.Outcome State Fault Refusal :=
  settle s (do
    checkWritable s d
    let base ← readReg s .src r
    let p ← memRead s (effectiveAddr base off) n
    writeBack p.2 d p.1)

/-- BPF_ST at `n` bytes: the low bytes of the sign-extended immediate (rules R107 (e), R271). -/
def storeImm (n : Nat) (d : Reg) (off : BitVec 16) (imm : BitVec 32) (s : State) : Host.Outcome State Fault Refusal :=
  settle s (do
    let base ← readReg s .dst d
    let t ← memWrite s (effectiveAddr base off) n (sextImm imm)
    advance t 1)

/-- BPF_STX at `n` bytes: the low bytes of R[src] (rule R270). -/
def storeReg (n : Nat) (d r : Reg) (off : BitVec 16) (s : State) : Host.Outcome State Fault Refusal :=
  settle s (do
    let base ← readReg s .dst d
    let v ← readReg s .src r
    let t ← memWrite s (effectiveAddr base off) n v
    advance t 1)

/-- `ldxw rD, [rS+off]` (rule R272). -/
def execLdxw (dst src : Reg) (off : BitVec 16) (s : State) : Host.Outcome State Fault Refusal :=
  loadInto 4 dst src off s

/-- `ldxh rD, [rS+off]` (rule R273). -/
def execLdxh (dst src : Reg) (off : BitVec 16) (s : State) : Host.Outcome State Fault Refusal :=
  loadInto 2 dst src off s

/-- `ldxb rD, [rS+off]` (rule R274). -/
def execLdxb (dst src : Reg) (off : BitVec 16) (s : State) : Host.Outcome State Fault Refusal :=
  loadInto 1 dst src off s

/-- `ldxdw rD, [rS+off]` (rule R275). -/
def execLdxdw (dst src : Reg) (off : BitVec 16) (s : State) : Host.Outcome State Fault Refusal :=
  loadInto 8 dst src off s

/-- `stw [rD+off], imm` (rule R276). -/
def execStw (dst : Reg) (off : BitVec 16) (imm : BitVec 32) (s : State) : Host.Outcome State Fault Refusal :=
  storeImm 4 dst off imm s

/-- `sth [rD+off], imm` (rule R277). -/
def execSth (dst : Reg) (off : BitVec 16) (imm : BitVec 32) (s : State) : Host.Outcome State Fault Refusal :=
  storeImm 2 dst off imm s

/-- `stb [rD+off], imm` (rule R278). -/
def execStb (dst : Reg) (off : BitVec 16) (imm : BitVec 32) (s : State) : Host.Outcome State Fault Refusal :=
  storeImm 1 dst off imm s

/-- `stdw [rD+off], imm` (rule R279). -/
def execStdw (dst : Reg) (off : BitVec 16) (imm : BitVec 32) (s : State) : Host.Outcome State Fault Refusal :=
  storeImm 8 dst off imm s

/-- `stxw [rD+off], rS` (rule R280). -/
def execStxw (dst src : Reg) (off : BitVec 16) (s : State) : Host.Outcome State Fault Refusal :=
  storeReg 4 dst src off s

/-- `stxh [rD+off], rS` (rule R281). -/
def execStxh (dst src : Reg) (off : BitVec 16) (s : State) : Host.Outcome State Fault Refusal :=
  storeReg 2 dst src off s

/-- `stxb [rD+off], rS` (rule R282). -/
def execStxb (dst src : Reg) (off : BitVec 16) (s : State) : Host.Outcome State Fault Refusal :=
  storeReg 1 dst src off s

/-- `stxdw [rD+off], rS` (rule R283). -/
def execStxdw (dst src : Reg) (off : BitVec 16) (s : State) : Host.Outcome State Fault Refusal :=
  storeReg 8 dst src off s

end Sys2Proof.Machine
end

