-- ==== Sys2Proof/Machine/Dispatch.lean ====
section
/-! DEFINITION. Sys2Proof/Machine/Dispatch.lean: each instruction and its meaning. -/

namespace Sys2Proof.Machine

def exec (i : Instr) (s : State) : Host.Outcome State Fault Refusal :=
  match i with
  | .add32Imm dst imm => Sys2Proof.Machine.execAdd32Imm dst imm s
  | .add32Reg dst src => Sys2Proof.Machine.execAdd32Reg dst src s
  | .add64Imm dst imm => Sys2Proof.Machine.execAdd64Imm dst imm s
  | .add64Reg dst src => Sys2Proof.Machine.execAdd64Reg dst src s
  | .sub32Imm dst imm => Sys2Proof.Machine.execSub32Imm dst imm s
  | .sub32Reg dst src => Sys2Proof.Machine.execSub32Reg dst src s
  | .sub64Imm dst imm => Sys2Proof.Machine.execSub64Imm dst imm s
  | .sub64Reg dst src => Sys2Proof.Machine.execSub64Reg dst src s
  | .mul32Imm dst imm => Sys2Proof.Machine.execMul32Imm dst imm s
  | .mul32Reg dst src => Sys2Proof.Machine.execMul32Reg dst src s
  | .mul64Imm dst imm => Sys2Proof.Machine.execMul64Imm dst imm s
  | .mul64Reg dst src => Sys2Proof.Machine.execMul64Reg dst src s
  | .div32Imm dst imm => Sys2Proof.Machine.execDiv32Imm dst imm s
  | .div32Reg dst src => Sys2Proof.Machine.execDiv32Reg dst src s
  | .div64Imm dst imm => Sys2Proof.Machine.execDiv64Imm dst imm s
  | .div64Reg dst src => Sys2Proof.Machine.execDiv64Reg dst src s
  | .or32Imm dst imm => Sys2Proof.Machine.execOr32Imm dst imm s
  | .or32Reg dst src => Sys2Proof.Machine.execOr32Reg dst src s
  | .or64Imm dst imm => Sys2Proof.Machine.execOr64Imm dst imm s
  | .or64Reg dst src => Sys2Proof.Machine.execOr64Reg dst src s
  | .and32Imm dst imm => Sys2Proof.Machine.execAnd32Imm dst imm s
  | .and32Reg dst src => Sys2Proof.Machine.execAnd32Reg dst src s
  | .and64Imm dst imm => Sys2Proof.Machine.execAnd64Imm dst imm s
  | .and64Reg dst src => Sys2Proof.Machine.execAnd64Reg dst src s
  | .lsh32Imm dst imm => Sys2Proof.Machine.execLsh32Imm dst imm s
  | .lsh32Reg dst src => Sys2Proof.Machine.execLsh32Reg dst src s
  | .lsh64Imm dst imm => Sys2Proof.Machine.execLsh64Imm dst imm s
  | .lsh64Reg dst src => Sys2Proof.Machine.execLsh64Reg dst src s
  | .rsh32Imm dst imm => Sys2Proof.Machine.execRsh32Imm dst imm s
  | .rsh32Reg dst src => Sys2Proof.Machine.execRsh32Reg dst src s
  | .rsh64Imm dst imm => Sys2Proof.Machine.execRsh64Imm dst imm s
  | .rsh64Reg dst src => Sys2Proof.Machine.execRsh64Reg dst src s
  | .neg32 dst => Sys2Proof.Machine.execNeg32 dst s
  | .neg64 dst => Sys2Proof.Machine.execNeg64 dst s
  | .mod32Imm dst imm => Sys2Proof.Machine.execMod32Imm dst imm s
  | .mod32Reg dst src => Sys2Proof.Machine.execMod32Reg dst src s
  | .mod64Imm dst imm => Sys2Proof.Machine.execMod64Imm dst imm s
  | .mod64Reg dst src => Sys2Proof.Machine.execMod64Reg dst src s
  | .xor32Imm dst imm => Sys2Proof.Machine.execXor32Imm dst imm s
  | .xor32Reg dst src => Sys2Proof.Machine.execXor32Reg dst src s
  | .xor64Imm dst imm => Sys2Proof.Machine.execXor64Imm dst imm s
  | .xor64Reg dst src => Sys2Proof.Machine.execXor64Reg dst src s
  | .mov32Imm dst imm => Sys2Proof.Machine.execMov32Imm dst imm s
  | .mov32Reg dst src => Sys2Proof.Machine.execMov32Reg dst src s
  | .mov64Imm dst imm => Sys2Proof.Machine.execMov64Imm dst imm s
  | .mov64Reg dst src => Sys2Proof.Machine.execMov64Reg dst src s
  | .arsh32Imm dst imm => Sys2Proof.Machine.execArsh32Imm dst imm s
  | .arsh32Reg dst src => Sys2Proof.Machine.execArsh32Reg dst src s
  | .arsh64Imm dst imm => Sys2Proof.Machine.execArsh64Imm dst imm s
  | .arsh64Reg dst src => Sys2Proof.Machine.execArsh64Reg dst src s
  | .le16 dst => Sys2Proof.Machine.execLe16 dst s
  | .le32 dst => Sys2Proof.Machine.execLe32 dst s
  | .le64 dst => Sys2Proof.Machine.execLe64 dst s
  | .be16 dst => Sys2Proof.Machine.execBe16 dst s
  | .be32 dst => Sys2Proof.Machine.execBe32 dst s
  | .be64 dst => Sys2Proof.Machine.execBe64 dst s
  | .ja off => Sys2Proof.Machine.execJa off s
  | .jeq64Imm dst imm off => Sys2Proof.Machine.execJeq64Imm dst imm off s
  | .jeq64Reg dst src off => Sys2Proof.Machine.execJeq64Reg dst src off s
  | .jeq32Imm dst imm off => Sys2Proof.Machine.execJeq32Imm dst imm off s
  | .jeq32Reg dst src off => Sys2Proof.Machine.execJeq32Reg dst src off s
  | .jgt64Imm dst imm off => Sys2Proof.Machine.execJgt64Imm dst imm off s
  | .jgt64Reg dst src off => Sys2Proof.Machine.execJgt64Reg dst src off s
  | .jgt32Imm dst imm off => Sys2Proof.Machine.execJgt32Imm dst imm off s
  | .jgt32Reg dst src off => Sys2Proof.Machine.execJgt32Reg dst src off s
  | .jge64Imm dst imm off => Sys2Proof.Machine.execJge64Imm dst imm off s
  | .jge64Reg dst src off => Sys2Proof.Machine.execJge64Reg dst src off s
  | .jge32Imm dst imm off => Sys2Proof.Machine.execJge32Imm dst imm off s
  | .jge32Reg dst src off => Sys2Proof.Machine.execJge32Reg dst src off s
  | .jset64Imm dst imm off => Sys2Proof.Machine.execJset64Imm dst imm off s
  | .jset64Reg dst src off => Sys2Proof.Machine.execJset64Reg dst src off s
  | .jset32Imm dst imm off => Sys2Proof.Machine.execJset32Imm dst imm off s
  | .jset32Reg dst src off => Sys2Proof.Machine.execJset32Reg dst src off s
  | .jne64Imm dst imm off => Sys2Proof.Machine.execJne64Imm dst imm off s
  | .jne64Reg dst src off => Sys2Proof.Machine.execJne64Reg dst src off s
  | .jne32Imm dst imm off => Sys2Proof.Machine.execJne32Imm dst imm off s
  | .jne32Reg dst src off => Sys2Proof.Machine.execJne32Reg dst src off s
  | .jsgt64Imm dst imm off => Sys2Proof.Machine.execJsgt64Imm dst imm off s
  | .jsgt64Reg dst src off => Sys2Proof.Machine.execJsgt64Reg dst src off s
  | .jsgt32Imm dst imm off => Sys2Proof.Machine.execJsgt32Imm dst imm off s
  | .jsgt32Reg dst src off => Sys2Proof.Machine.execJsgt32Reg dst src off s
  | .jsge64Imm dst imm off => Sys2Proof.Machine.execJsge64Imm dst imm off s
  | .jsge64Reg dst src off => Sys2Proof.Machine.execJsge64Reg dst src off s
  | .jsge32Imm dst imm off => Sys2Proof.Machine.execJsge32Imm dst imm off s
  | .jsge32Reg dst src off => Sys2Proof.Machine.execJsge32Reg dst src off s
  | .jlt64Imm dst imm off => Sys2Proof.Machine.execJlt64Imm dst imm off s
  | .jlt64Reg dst src off => Sys2Proof.Machine.execJlt64Reg dst src off s
  | .jlt32Imm dst imm off => Sys2Proof.Machine.execJlt32Imm dst imm off s
  | .jlt32Reg dst src off => Sys2Proof.Machine.execJlt32Reg dst src off s
  | .jle64Imm dst imm off => Sys2Proof.Machine.execJle64Imm dst imm off s
  | .jle64Reg dst src off => Sys2Proof.Machine.execJle64Reg dst src off s
  | .jle32Imm dst imm off => Sys2Proof.Machine.execJle32Imm dst imm off s
  | .jle32Reg dst src off => Sys2Proof.Machine.execJle32Reg dst src off s
  | .jslt64Imm dst imm off => Sys2Proof.Machine.execJslt64Imm dst imm off s
  | .jslt64Reg dst src off => Sys2Proof.Machine.execJslt64Reg dst src off s
  | .jslt32Imm dst imm off => Sys2Proof.Machine.execJslt32Imm dst imm off s
  | .jslt32Reg dst src off => Sys2Proof.Machine.execJslt32Reg dst src off s
  | .jsle64Imm dst imm off => Sys2Proof.Machine.execJsle64Imm dst imm off s
  | .jsle64Reg dst src off => Sys2Proof.Machine.execJsle64Reg dst src off s
  | .jsle32Imm dst imm off => Sys2Proof.Machine.execJsle32Imm dst imm off s
  | .jsle32Reg dst src off => Sys2Proof.Machine.execJsle32Reg dst src off s
  | .callHelper imm => Sys2Proof.Machine.execCallHelper imm s
  | .callLocal off imm => Sys2Proof.Machine.execCallLocal off imm s
  | .callPlatform imm => Sys2Proof.Machine.execCallPlatform imm s
  | .exit => Sys2Proof.Machine.execExit s
  | .ldxw dst src off => Sys2Proof.Machine.execLdxw dst src off s
  | .ldxh dst src off => Sys2Proof.Machine.execLdxh dst src off s
  | .ldxb dst src off => Sys2Proof.Machine.execLdxb dst src off s
  | .ldxdw dst src off => Sys2Proof.Machine.execLdxdw dst src off s
  | .stw dst off imm => Sys2Proof.Machine.execStw dst off imm s
  | .sth dst off imm => Sys2Proof.Machine.execSth dst off imm s
  | .stb dst off imm => Sys2Proof.Machine.execStb dst off imm s
  | .stdw dst off imm => Sys2Proof.Machine.execStdw dst off imm s
  | .stxw dst src off => Sys2Proof.Machine.execStxw dst src off s
  | .stxh dst src off => Sys2Proof.Machine.execStxh dst src off s
  | .stxb dst src off => Sys2Proof.Machine.execStxb dst src off s
  | .stxdw dst src off => Sys2Proof.Machine.execStxdw dst src off s
  | .atomicAdd32 dst src off => Sys2Proof.Machine.execAtomicAdd32 dst src off s
  | .atomicFetchAdd32 dst src off => Sys2Proof.Machine.execAtomicFetchAdd32 dst src off s
  | .atomicOr32 dst src off => Sys2Proof.Machine.execAtomicOr32 dst src off s
  | .atomicFetchOr32 dst src off => Sys2Proof.Machine.execAtomicFetchOr32 dst src off s
  | .atomicAnd32 dst src off => Sys2Proof.Machine.execAtomicAnd32 dst src off s
  | .atomicFetchAnd32 dst src off => Sys2Proof.Machine.execAtomicFetchAnd32 dst src off s
  | .atomicXor32 dst src off => Sys2Proof.Machine.execAtomicXor32 dst src off s
  | .atomicFetchXor32 dst src off => Sys2Proof.Machine.execAtomicFetchXor32 dst src off s
  | .atomicXchg32 dst src off => Sys2Proof.Machine.execAtomicXchg32 dst src off s
  | .atomicCmpxchg32 dst src off => Sys2Proof.Machine.execAtomicCmpxchg32 dst src off s
  | .atomicAdd64 dst src off => Sys2Proof.Machine.execAtomicAdd64 dst src off s
  | .atomicFetchAdd64 dst src off => Sys2Proof.Machine.execAtomicFetchAdd64 dst src off s
  | .atomicOr64 dst src off => Sys2Proof.Machine.execAtomicOr64 dst src off s
  | .atomicFetchOr64 dst src off => Sys2Proof.Machine.execAtomicFetchOr64 dst src off s
  | .atomicAnd64 dst src off => Sys2Proof.Machine.execAtomicAnd64 dst src off s
  | .atomicFetchAnd64 dst src off => Sys2Proof.Machine.execAtomicFetchAnd64 dst src off s
  | .atomicXor64 dst src off => Sys2Proof.Machine.execAtomicXor64 dst src off s
  | .atomicFetchXor64 dst src off => Sys2Proof.Machine.execAtomicFetchXor64 dst src off s
  | .atomicXchg64 dst src off => Sys2Proof.Machine.execAtomicXchg64 dst src off s
  | .atomicCmpxchg64 dst src off => Sys2Proof.Machine.execAtomicCmpxchg64 dst src off s
  | .lddw dst imm nextImm => Sys2Proof.Machine.execLddw dst imm nextImm s
  | .ldMapFd dst imm => Sys2Proof.Machine.execLdMapFd dst imm s
  | .ldMapFdValue dst imm nextImm => Sys2Proof.Machine.execLdMapFdValue dst imm nextImm s
  | .ldVarAddr dst imm => Sys2Proof.Machine.execLdVarAddr dst imm s
  | .ldCodeAddr dst imm => Sys2Proof.Machine.execLdCodeAddr dst imm s
  | .ldMapIdx dst imm => Sys2Proof.Machine.execLdMapIdx dst imm s
  | .ldMapIdxValue dst imm nextImm => Sys2Proof.Machine.execLdMapIdxValue dst imm nextImm s
  | .ldabsw rest => Sys2Proof.Machine.execLdabsw rest s
  | .ldabsh rest => Sys2Proof.Machine.execLdabsh rest s
  | .ldabsb rest => Sys2Proof.Machine.execLdabsb rest s
  | .ldabsdw rest => Sys2Proof.Machine.execLdabsdw rest s
  | .ldindw rest => Sys2Proof.Machine.execLdindw rest s
  | .ldindh rest => Sys2Proof.Machine.execLdindh rest s
  | .ldindb rest => Sys2Proof.Machine.execLdindb rest s
  | .ldinddw rest => Sys2Proof.Machine.execLdinddw rest s

end Sys2Proof.Machine
end

