-- ==== Sys2Proof/Machine/Step.lean ====
section
/-! DEFINITION. Sys2Proof/Machine/Step.lean: one step of the machine (rule R46), and a state that is about to run a
given instruction. -/

namespace Sys2Proof.Machine

/-- One step (rules R45, R46, R74): while the status is `running`, the environment does
what it does before the step, the slot at `pc` is fetched and decoded, and the
instruction is executed; a fault at fetch is raised like any other (log 11). Once the status is not
`running` there is no further step. -/
def step (s : State) : Host.Outcome State Fault Refusal :=
  match s.status with
  | .exited _ => .refused .runExited
  | .faulted f => .fault f
  | .running =>
    match fetch s.betweenSteps with
    | .error f => .next (raise f s.betweenSteps)
    | .ok i => exec i s.betweenSteps

/-- A text with `w1` and `w2` at slots `pc` and `pc + 1`, zero words added at its end as far as `pc + 2` needs. -/
def placeWords (text : List Word) (pc : Nat) (w1 w2 : Word) : List Word :=
  ((text ++ List.replicate (pc + 3 - text.length) 0).set pc w1).set (pc + 1) w2

/-- `s` with the instruction whose bits are `w` (bits from `nbits` up zero) in the slots at `pc`, and running. The
text is made long enough for the slot after a wide instruction to exist, so that falling through to it is no
`PcOutOfRange` (log 6). -/
def State.withFetchWord (s : State) (nbits w : Nat) : State :=
  { s with
    text := placeWords s.text s.pc (tableWords nbits w).1 (tableWords nbits w).2
    status := .running }

end Sys2Proof.Machine
end

