-- ==== Sys2Proof/Safety.lean ====
section
/-! DEFINITION. Sys2Proof/Safety.lean: the terms claims are stated in: what an instruction may write (rule R49), what
a step that completes looks like, the invariants of the machine. -/

namespace Sys2Proof

/-- The registers an instruction writes or takes the value of away (rule R49's table, its columns dst_reg, src_reg,
R0, R1-R5 and R10, with R6 to R9 for the local call and for exit). A store, a jump and a legacy opcode write none. -/
def Instr.writes : Instr → List Reg
  | .add32Imm dst _ => [dst]
  | .add32Reg dst _ => [dst]
  | .add64Imm dst _ => [dst]
  | .add64Reg dst _ => [dst]
  | .sub32Imm dst _ => [dst]
  | .sub32Reg dst _ => [dst]
  | .sub64Imm dst _ => [dst]
  | .sub64Reg dst _ => [dst]
  | .mul32Imm dst _ => [dst]
  | .mul32Reg dst _ => [dst]
  | .mul64Imm dst _ => [dst]
  | .mul64Reg dst _ => [dst]
  | .div32Imm dst _ => [dst]
  | .div32Reg dst _ => [dst]
  | .div64Imm dst _ => [dst]
  | .div64Reg dst _ => [dst]
  | .or32Imm dst _ => [dst]
  | .or32Reg dst _ => [dst]
  | .or64Imm dst _ => [dst]
  | .or64Reg dst _ => [dst]
  | .and32Imm dst _ => [dst]
  | .and32Reg dst _ => [dst]
  | .and64Imm dst _ => [dst]
  | .and64Reg dst _ => [dst]
  | .lsh32Imm dst _ => [dst]
  | .lsh32Reg dst _ => [dst]
  | .lsh64Imm dst _ => [dst]
  | .lsh64Reg dst _ => [dst]
  | .rsh32Imm dst _ => [dst]
  | .rsh32Reg dst _ => [dst]
  | .rsh64Imm dst _ => [dst]
  | .rsh64Reg dst _ => [dst]
  | .neg32 dst => [dst]
  | .neg64 dst => [dst]
  | .mod32Imm dst _ => [dst]
  | .mod32Reg dst _ => [dst]
  | .mod64Imm dst _ => [dst]
  | .mod64Reg dst _ => [dst]
  | .xor32Imm dst _ => [dst]
  | .xor32Reg dst _ => [dst]
  | .xor64Imm dst _ => [dst]
  | .xor64Reg dst _ => [dst]
  | .mov32Imm dst _ => [dst]
  | .mov32Reg dst _ => [dst]
  | .mov64Imm dst _ => [dst]
  | .mov64Reg dst _ => [dst]
  | .arsh32Imm dst _ => [dst]
  | .arsh32Reg dst _ => [dst]
  | .arsh64Imm dst _ => [dst]
  | .arsh64Reg dst _ => [dst]
  | .le16 dst => [dst]
  | .le32 dst => [dst]
  | .le64 dst => [dst]
  | .be16 dst => [dst]
  | .be32 dst => [dst]
  | .be64 dst => [dst]
  | .ja _ => []
  | .jeq64Imm _ _ _ => []
  | .jeq64Reg _ _ _ => []
  | .jeq32Imm _ _ _ => []
  | .jeq32Reg _ _ _ => []
  | .jgt64Imm _ _ _ => []
  | .jgt64Reg _ _ _ => []
  | .jgt32Imm _ _ _ => []
  | .jgt32Reg _ _ _ => []
  | .jge64Imm _ _ _ => []
  | .jge64Reg _ _ _ => []
  | .jge32Imm _ _ _ => []
  | .jge32Reg _ _ _ => []
  | .jset64Imm _ _ _ => []
  | .jset64Reg _ _ _ => []
  | .jset32Imm _ _ _ => []
  | .jset32Reg _ _ _ => []
  | .jne64Imm _ _ _ => []
  | .jne64Reg _ _ _ => []
  | .jne32Imm _ _ _ => []
  | .jne32Reg _ _ _ => []
  | .jsgt64Imm _ _ _ => []
  | .jsgt64Reg _ _ _ => []
  | .jsgt32Imm _ _ _ => []
  | .jsgt32Reg _ _ _ => []
  | .jsge64Imm _ _ _ => []
  | .jsge64Reg _ _ _ => []
  | .jsge32Imm _ _ _ => []
  | .jsge32Reg _ _ _ => []
  | .jlt64Imm _ _ _ => []
  | .jlt64Reg _ _ _ => []
  | .jlt32Imm _ _ _ => []
  | .jlt32Reg _ _ _ => []
  | .jle64Imm _ _ _ => []
  | .jle64Reg _ _ _ => []
  | .jle32Imm _ _ _ => []
  | .jle32Reg _ _ _ => []
  | .jslt64Imm _ _ _ => []
  | .jslt64Reg _ _ _ => []
  | .jslt32Imm _ _ _ => []
  | .jslt32Reg _ _ _ => []
  | .jsle64Imm _ _ _ => []
  | .jsle64Reg _ _ _ => []
  | .jsle32Imm _ _ _ => []
  | .jsle32Reg _ _ _ => []
  | .callHelper _ => [0, 1, 2, 3, 4, 5]
  | .callLocal _ _ => [0, 6, 7, 8, 9, 10]
  | .callPlatform _ => [0, 1, 2, 3, 4, 5]
  | .exit => [1, 2, 3, 4, 5, 6, 7, 8, 9, 10]
  | .ldxw dst _ _ => [dst]
  | .ldxh dst _ _ => [dst]
  | .ldxb dst _ _ => [dst]
  | .ldxdw dst _ _ => [dst]
  | .stw _ _ _ => []
  | .sth _ _ _ => []
  | .stb _ _ _ => []
  | .stdw _ _ _ => []
  | .stxw _ _ _ => []
  | .stxh _ _ _ => []
  | .stxb _ _ _ => []
  | .stxdw _ _ _ => []
  | .atomicAdd32 _ _ _ => []
  | .atomicFetchAdd32 _ src _ => [src]
  | .atomicOr32 _ _ _ => []
  | .atomicFetchOr32 _ src _ => [src]
  | .atomicAnd32 _ _ _ => []
  | .atomicFetchAnd32 _ src _ => [src]
  | .atomicXor32 _ _ _ => []
  | .atomicFetchXor32 _ src _ => [src]
  | .atomicXchg32 _ src _ => [src]
  | .atomicCmpxchg32 _ _ _ => [0]
  | .atomicAdd64 _ _ _ => []
  | .atomicFetchAdd64 _ src _ => [src]
  | .atomicOr64 _ _ _ => []
  | .atomicFetchOr64 _ src _ => [src]
  | .atomicAnd64 _ _ _ => []
  | .atomicFetchAnd64 _ src _ => [src]
  | .atomicXor64 _ _ _ => []
  | .atomicFetchXor64 _ src _ => [src]
  | .atomicXchg64 _ src _ => [src]
  | .atomicCmpxchg64 _ _ _ => [0]
  | .lddw dst _ _ => [dst]
  | .ldMapFd dst _ => [dst]
  | .ldMapFdValue dst _ _ => [dst]
  | .ldVarAddr dst _ => [dst]
  | .ldCodeAddr dst _ => [dst]
  | .ldMapIdx dst _ => [dst]
  | .ldMapIdxValue dst _ _ => [dst]
  | .ldabsw _ => []
  | .ldabsh _ => []
  | .ldabsb _ => []
  | .ldabsdw _ => []
  | .ldindw _ => []
  | .ldindh _ => []
  | .ldindb _ => []
  | .ldinddw _ => []

/-- Where an instruction stores: base register, offset and width in bytes (rule R49's column memory). Helper calls,
whose effect on memory is the platform's, are not in it. -/
def Instr.stores : Instr → Option (Reg × BitVec 16 × Nat)
  | .add32Imm _ _ => none
  | .add32Reg _ _ => none
  | .add64Imm _ _ => none
  | .add64Reg _ _ => none
  | .sub32Imm _ _ => none
  | .sub32Reg _ _ => none
  | .sub64Imm _ _ => none
  | .sub64Reg _ _ => none
  | .mul32Imm _ _ => none
  | .mul32Reg _ _ => none
  | .mul64Imm _ _ => none
  | .mul64Reg _ _ => none
  | .div32Imm _ _ => none
  | .div32Reg _ _ => none
  | .div64Imm _ _ => none
  | .div64Reg _ _ => none
  | .or32Imm _ _ => none
  | .or32Reg _ _ => none
  | .or64Imm _ _ => none
  | .or64Reg _ _ => none
  | .and32Imm _ _ => none
  | .and32Reg _ _ => none
  | .and64Imm _ _ => none
  | .and64Reg _ _ => none
  | .lsh32Imm _ _ => none
  | .lsh32Reg _ _ => none
  | .lsh64Imm _ _ => none
  | .lsh64Reg _ _ => none
  | .rsh32Imm _ _ => none
  | .rsh32Reg _ _ => none
  | .rsh64Imm _ _ => none
  | .rsh64Reg _ _ => none
  | .neg32 _ => none
  | .neg64 _ => none
  | .mod32Imm _ _ => none
  | .mod32Reg _ _ => none
  | .mod64Imm _ _ => none
  | .mod64Reg _ _ => none
  | .xor32Imm _ _ => none
  | .xor32Reg _ _ => none
  | .xor64Imm _ _ => none
  | .xor64Reg _ _ => none
  | .mov32Imm _ _ => none
  | .mov32Reg _ _ => none
  | .mov64Imm _ _ => none
  | .mov64Reg _ _ => none
  | .arsh32Imm _ _ => none
  | .arsh32Reg _ _ => none
  | .arsh64Imm _ _ => none
  | .arsh64Reg _ _ => none
  | .le16 _ => none
  | .le32 _ => none
  | .le64 _ => none
  | .be16 _ => none
  | .be32 _ => none
  | .be64 _ => none
  | .ja _ => none
  | .jeq64Imm _ _ _ => none
  | .jeq64Reg _ _ _ => none
  | .jeq32Imm _ _ _ => none
  | .jeq32Reg _ _ _ => none
  | .jgt64Imm _ _ _ => none
  | .jgt64Reg _ _ _ => none
  | .jgt32Imm _ _ _ => none
  | .jgt32Reg _ _ _ => none
  | .jge64Imm _ _ _ => none
  | .jge64Reg _ _ _ => none
  | .jge32Imm _ _ _ => none
  | .jge32Reg _ _ _ => none
  | .jset64Imm _ _ _ => none
  | .jset64Reg _ _ _ => none
  | .jset32Imm _ _ _ => none
  | .jset32Reg _ _ _ => none
  | .jne64Imm _ _ _ => none
  | .jne64Reg _ _ _ => none
  | .jne32Imm _ _ _ => none
  | .jne32Reg _ _ _ => none
  | .jsgt64Imm _ _ _ => none
  | .jsgt64Reg _ _ _ => none
  | .jsgt32Imm _ _ _ => none
  | .jsgt32Reg _ _ _ => none
  | .jsge64Imm _ _ _ => none
  | .jsge64Reg _ _ _ => none
  | .jsge32Imm _ _ _ => none
  | .jsge32Reg _ _ _ => none
  | .jlt64Imm _ _ _ => none
  | .jlt64Reg _ _ _ => none
  | .jlt32Imm _ _ _ => none
  | .jlt32Reg _ _ _ => none
  | .jle64Imm _ _ _ => none
  | .jle64Reg _ _ _ => none
  | .jle32Imm _ _ _ => none
  | .jle32Reg _ _ _ => none
  | .jslt64Imm _ _ _ => none
  | .jslt64Reg _ _ _ => none
  | .jslt32Imm _ _ _ => none
  | .jslt32Reg _ _ _ => none
  | .jsle64Imm _ _ _ => none
  | .jsle64Reg _ _ _ => none
  | .jsle32Imm _ _ _ => none
  | .jsle32Reg _ _ _ => none
  | .callHelper _ => none
  | .callLocal _ _ => none
  | .callPlatform _ => none
  | .exit => none
  | .ldxw _ _ _ => none
  | .ldxh _ _ _ => none
  | .ldxb _ _ _ => none
  | .ldxdw _ _ _ => none
  | .stw dst off _ => some (dst, off, 4)
  | .sth dst off _ => some (dst, off, 2)
  | .stb dst off _ => some (dst, off, 1)
  | .stdw dst off _ => some (dst, off, 8)
  | .stxw dst _ off => some (dst, off, 4)
  | .stxh dst _ off => some (dst, off, 2)
  | .stxb dst _ off => some (dst, off, 1)
  | .stxdw dst _ off => some (dst, off, 8)
  | .atomicAdd32 dst _ off => some (dst, off, 4)
  | .atomicFetchAdd32 dst _ off => some (dst, off, 4)
  | .atomicOr32 dst _ off => some (dst, off, 4)
  | .atomicFetchOr32 dst _ off => some (dst, off, 4)
  | .atomicAnd32 dst _ off => some (dst, off, 4)
  | .atomicFetchAnd32 dst _ off => some (dst, off, 4)
  | .atomicXor32 dst _ off => some (dst, off, 4)
  | .atomicFetchXor32 dst _ off => some (dst, off, 4)
  | .atomicXchg32 dst _ off => some (dst, off, 4)
  | .atomicCmpxchg32 dst _ off => some (dst, off, 4)
  | .atomicAdd64 dst _ off => some (dst, off, 8)
  | .atomicFetchAdd64 dst _ off => some (dst, off, 8)
  | .atomicOr64 dst _ off => some (dst, off, 8)
  | .atomicFetchOr64 dst _ off => some (dst, off, 8)
  | .atomicAnd64 dst _ off => some (dst, off, 8)
  | .atomicFetchAnd64 dst _ off => some (dst, off, 8)
  | .atomicXor64 dst _ off => some (dst, off, 8)
  | .atomicFetchXor64 dst _ off => some (dst, off, 8)
  | .atomicXchg64 dst _ off => some (dst, off, 8)
  | .atomicCmpxchg64 dst _ off => some (dst, off, 8)
  | .lddw _ _ _ => none
  | .ldMapFd _ _ => none
  | .ldMapFdValue _ _ _ => none
  | .ldVarAddr _ _ => none
  | .ldCodeAddr _ _ => none
  | .ldMapIdx _ _ => none
  | .ldMapIdxValue _ _ _ => none
  | .ldabsw _ => none
  | .ldabsh _ => none
  | .ldabsb _ => none
  | .ldabsdw _ => none
  | .ldindw _ => none
  | .ldindh _ => none
  | .ldindb _ => none
  | .ldinddw _ => none

/-- The plain access an instruction makes: operand position and number of the base register, offset and width in bytes
(rules R49, R271). An atomic is no plain access (rule R71). -/
def Instr.plainAccess : Instr → Option (ReadPos × Reg × BitVec 16 × Nat)
  | .add32Imm _ _ => none
  | .add32Reg _ _ => none
  | .add64Imm _ _ => none
  | .add64Reg _ _ => none
  | .sub32Imm _ _ => none
  | .sub32Reg _ _ => none
  | .sub64Imm _ _ => none
  | .sub64Reg _ _ => none
  | .mul32Imm _ _ => none
  | .mul32Reg _ _ => none
  | .mul64Imm _ _ => none
  | .mul64Reg _ _ => none
  | .div32Imm _ _ => none
  | .div32Reg _ _ => none
  | .div64Imm _ _ => none
  | .div64Reg _ _ => none
  | .or32Imm _ _ => none
  | .or32Reg _ _ => none
  | .or64Imm _ _ => none
  | .or64Reg _ _ => none
  | .and32Imm _ _ => none
  | .and32Reg _ _ => none
  | .and64Imm _ _ => none
  | .and64Reg _ _ => none
  | .lsh32Imm _ _ => none
  | .lsh32Reg _ _ => none
  | .lsh64Imm _ _ => none
  | .lsh64Reg _ _ => none
  | .rsh32Imm _ _ => none
  | .rsh32Reg _ _ => none
  | .rsh64Imm _ _ => none
  | .rsh64Reg _ _ => none
  | .neg32 _ => none
  | .neg64 _ => none
  | .mod32Imm _ _ => none
  | .mod32Reg _ _ => none
  | .mod64Imm _ _ => none
  | .mod64Reg _ _ => none
  | .xor32Imm _ _ => none
  | .xor32Reg _ _ => none
  | .xor64Imm _ _ => none
  | .xor64Reg _ _ => none
  | .mov32Imm _ _ => none
  | .mov32Reg _ _ => none
  | .mov64Imm _ _ => none
  | .mov64Reg _ _ => none
  | .arsh32Imm _ _ => none
  | .arsh32Reg _ _ => none
  | .arsh64Imm _ _ => none
  | .arsh64Reg _ _ => none
  | .le16 _ => none
  | .le32 _ => none
  | .le64 _ => none
  | .be16 _ => none
  | .be32 _ => none
  | .be64 _ => none
  | .ja _ => none
  | .jeq64Imm _ _ _ => none
  | .jeq64Reg _ _ _ => none
  | .jeq32Imm _ _ _ => none
  | .jeq32Reg _ _ _ => none
  | .jgt64Imm _ _ _ => none
  | .jgt64Reg _ _ _ => none
  | .jgt32Imm _ _ _ => none
  | .jgt32Reg _ _ _ => none
  | .jge64Imm _ _ _ => none
  | .jge64Reg _ _ _ => none
  | .jge32Imm _ _ _ => none
  | .jge32Reg _ _ _ => none
  | .jset64Imm _ _ _ => none
  | .jset64Reg _ _ _ => none
  | .jset32Imm _ _ _ => none
  | .jset32Reg _ _ _ => none
  | .jne64Imm _ _ _ => none
  | .jne64Reg _ _ _ => none
  | .jne32Imm _ _ _ => none
  | .jne32Reg _ _ _ => none
  | .jsgt64Imm _ _ _ => none
  | .jsgt64Reg _ _ _ => none
  | .jsgt32Imm _ _ _ => none
  | .jsgt32Reg _ _ _ => none
  | .jsge64Imm _ _ _ => none
  | .jsge64Reg _ _ _ => none
  | .jsge32Imm _ _ _ => none
  | .jsge32Reg _ _ _ => none
  | .jlt64Imm _ _ _ => none
  | .jlt64Reg _ _ _ => none
  | .jlt32Imm _ _ _ => none
  | .jlt32Reg _ _ _ => none
  | .jle64Imm _ _ _ => none
  | .jle64Reg _ _ _ => none
  | .jle32Imm _ _ _ => none
  | .jle32Reg _ _ _ => none
  | .jslt64Imm _ _ _ => none
  | .jslt64Reg _ _ _ => none
  | .jslt32Imm _ _ _ => none
  | .jslt32Reg _ _ _ => none
  | .jsle64Imm _ _ _ => none
  | .jsle64Reg _ _ _ => none
  | .jsle32Imm _ _ _ => none
  | .jsle32Reg _ _ _ => none
  | .callHelper _ => none
  | .callLocal _ _ => none
  | .callPlatform _ => none
  | .exit => none
  | .ldxw _ src off => some (.src, src, off, 4)
  | .ldxh _ src off => some (.src, src, off, 2)
  | .ldxb _ src off => some (.src, src, off, 1)
  | .ldxdw _ src off => some (.src, src, off, 8)
  | .stw dst off _ => some (.dst, dst, off, 4)
  | .sth dst off _ => some (.dst, dst, off, 2)
  | .stb dst off _ => some (.dst, dst, off, 1)
  | .stdw dst off _ => some (.dst, dst, off, 8)
  | .stxw dst _ off => some (.dst, dst, off, 4)
  | .stxh dst _ off => some (.dst, dst, off, 2)
  | .stxb dst _ off => some (.dst, dst, off, 1)
  | .stxdw dst _ off => some (.dst, dst, off, 8)
  | .atomicAdd32 _ _ _ => none
  | .atomicFetchAdd32 _ _ _ => none
  | .atomicOr32 _ _ _ => none
  | .atomicFetchOr32 _ _ _ => none
  | .atomicAnd32 _ _ _ => none
  | .atomicFetchAnd32 _ _ _ => none
  | .atomicXor32 _ _ _ => none
  | .atomicFetchXor32 _ _ _ => none
  | .atomicXchg32 _ _ _ => none
  | .atomicCmpxchg32 _ _ _ => none
  | .atomicAdd64 _ _ _ => none
  | .atomicFetchAdd64 _ _ _ => none
  | .atomicOr64 _ _ _ => none
  | .atomicFetchOr64 _ _ _ => none
  | .atomicAnd64 _ _ _ => none
  | .atomicFetchAnd64 _ _ _ => none
  | .atomicXor64 _ _ _ => none
  | .atomicFetchXor64 _ _ _ => none
  | .atomicXchg64 _ _ _ => none
  | .atomicCmpxchg64 _ _ _ => none
  | .lddw _ _ _ => none
  | .ldMapFd _ _ => none
  | .ldMapFdValue _ _ _ => none
  | .ldVarAddr _ _ => none
  | .ldCodeAddr _ _ => none
  | .ldMapIdx _ _ => none
  | .ldMapIdxValue _ _ _ => none
  | .ldabsw _ => none
  | .ldabsh _ => none
  | .ldabsb _ => none
  | .ldabsdw _ => none
  | .ldindw _ => none
  | .ldindh _ => none
  | .ldindb _ => none
  | .ldinddw _ => none

/-- The instruction is a helper call, the only one whose effect on memory the platform supplies (rule R262). -/
def Instr.isHelperCall : Instr → Bool
  | .add32Imm _ _ => false
  | .add32Reg _ _ => false
  | .add64Imm _ _ => false
  | .add64Reg _ _ => false
  | .sub32Imm _ _ => false
  | .sub32Reg _ _ => false
  | .sub64Imm _ _ => false
  | .sub64Reg _ _ => false
  | .mul32Imm _ _ => false
  | .mul32Reg _ _ => false
  | .mul64Imm _ _ => false
  | .mul64Reg _ _ => false
  | .div32Imm _ _ => false
  | .div32Reg _ _ => false
  | .div64Imm _ _ => false
  | .div64Reg _ _ => false
  | .or32Imm _ _ => false
  | .or32Reg _ _ => false
  | .or64Imm _ _ => false
  | .or64Reg _ _ => false
  | .and32Imm _ _ => false
  | .and32Reg _ _ => false
  | .and64Imm _ _ => false
  | .and64Reg _ _ => false
  | .lsh32Imm _ _ => false
  | .lsh32Reg _ _ => false
  | .lsh64Imm _ _ => false
  | .lsh64Reg _ _ => false
  | .rsh32Imm _ _ => false
  | .rsh32Reg _ _ => false
  | .rsh64Imm _ _ => false
  | .rsh64Reg _ _ => false
  | .neg32 _ => false
  | .neg64 _ => false
  | .mod32Imm _ _ => false
  | .mod32Reg _ _ => false
  | .mod64Imm _ _ => false
  | .mod64Reg _ _ => false
  | .xor32Imm _ _ => false
  | .xor32Reg _ _ => false
  | .xor64Imm _ _ => false
  | .xor64Reg _ _ => false
  | .mov32Imm _ _ => false
  | .mov32Reg _ _ => false
  | .mov64Imm _ _ => false
  | .mov64Reg _ _ => false
  | .arsh32Imm _ _ => false
  | .arsh32Reg _ _ => false
  | .arsh64Imm _ _ => false
  | .arsh64Reg _ _ => false
  | .le16 _ => false
  | .le32 _ => false
  | .le64 _ => false
  | .be16 _ => false
  | .be32 _ => false
  | .be64 _ => false
  | .ja _ => false
  | .jeq64Imm _ _ _ => false
  | .jeq64Reg _ _ _ => false
  | .jeq32Imm _ _ _ => false
  | .jeq32Reg _ _ _ => false
  | .jgt64Imm _ _ _ => false
  | .jgt64Reg _ _ _ => false
  | .jgt32Imm _ _ _ => false
  | .jgt32Reg _ _ _ => false
  | .jge64Imm _ _ _ => false
  | .jge64Reg _ _ _ => false
  | .jge32Imm _ _ _ => false
  | .jge32Reg _ _ _ => false
  | .jset64Imm _ _ _ => false
  | .jset64Reg _ _ _ => false
  | .jset32Imm _ _ _ => false
  | .jset32Reg _ _ _ => false
  | .jne64Imm _ _ _ => false
  | .jne64Reg _ _ _ => false
  | .jne32Imm _ _ _ => false
  | .jne32Reg _ _ _ => false
  | .jsgt64Imm _ _ _ => false
  | .jsgt64Reg _ _ _ => false
  | .jsgt32Imm _ _ _ => false
  | .jsgt32Reg _ _ _ => false
  | .jsge64Imm _ _ _ => false
  | .jsge64Reg _ _ _ => false
  | .jsge32Imm _ _ _ => false
  | .jsge32Reg _ _ _ => false
  | .jlt64Imm _ _ _ => false
  | .jlt64Reg _ _ _ => false
  | .jlt32Imm _ _ _ => false
  | .jlt32Reg _ _ _ => false
  | .jle64Imm _ _ _ => false
  | .jle64Reg _ _ _ => false
  | .jle32Imm _ _ _ => false
  | .jle32Reg _ _ _ => false
  | .jslt64Imm _ _ _ => false
  | .jslt64Reg _ _ _ => false
  | .jslt32Imm _ _ _ => false
  | .jslt32Reg _ _ _ => false
  | .jsle64Imm _ _ _ => false
  | .jsle64Reg _ _ _ => false
  | .jsle32Imm _ _ _ => false
  | .jsle32Reg _ _ _ => false
  | .callHelper _ => true
  | .callLocal _ _ => false
  | .callPlatform _ => true
  | .exit => false
  | .ldxw _ _ _ => false
  | .ldxh _ _ _ => false
  | .ldxb _ _ _ => false
  | .ldxdw _ _ _ => false
  | .stw _ _ _ => false
  | .sth _ _ _ => false
  | .stb _ _ _ => false
  | .stdw _ _ _ => false
  | .stxw _ _ _ => false
  | .stxh _ _ _ => false
  | .stxb _ _ _ => false
  | .stxdw _ _ _ => false
  | .atomicAdd32 _ _ _ => false
  | .atomicFetchAdd32 _ _ _ => false
  | .atomicOr32 _ _ _ => false
  | .atomicFetchOr32 _ _ _ => false
  | .atomicAnd32 _ _ _ => false
  | .atomicFetchAnd32 _ _ _ => false
  | .atomicXor32 _ _ _ => false
  | .atomicFetchXor32 _ _ _ => false
  | .atomicXchg32 _ _ _ => false
  | .atomicCmpxchg32 _ _ _ => false
  | .atomicAdd64 _ _ _ => false
  | .atomicFetchAdd64 _ _ _ => false
  | .atomicOr64 _ _ _ => false
  | .atomicFetchOr64 _ _ _ => false
  | .atomicAnd64 _ _ _ => false
  | .atomicFetchAnd64 _ _ _ => false
  | .atomicXor64 _ _ _ => false
  | .atomicFetchXor64 _ _ _ => false
  | .atomicXchg64 _ _ _ => false
  | .atomicCmpxchg64 _ _ _ => false
  | .lddw _ _ _ => false
  | .ldMapFd _ _ => false
  | .ldMapFdValue _ _ _ => false
  | .ldVarAddr _ _ => false
  | .ldCodeAddr _ _ => false
  | .ldMapIdx _ _ => false
  | .ldMapIdxValue _ _ _ => false
  | .ldabsw _ => false
  | .ldabsh _ => false
  | .ldabsb _ => false
  | .ldabsdw _ => false
  | .ldindw _ => false
  | .ldindh _ => false
  | .ldindb _ => false
  | .ldinddw _ => false

/-- The instruction is a BPF-local call or exit, the only ones that use the call stack (rule R44). -/
def Instr.usesCallStack : Instr → Bool
  | .add32Imm _ _ => false
  | .add32Reg _ _ => false
  | .add64Imm _ _ => false
  | .add64Reg _ _ => false
  | .sub32Imm _ _ => false
  | .sub32Reg _ _ => false
  | .sub64Imm _ _ => false
  | .sub64Reg _ _ => false
  | .mul32Imm _ _ => false
  | .mul32Reg _ _ => false
  | .mul64Imm _ _ => false
  | .mul64Reg _ _ => false
  | .div32Imm _ _ => false
  | .div32Reg _ _ => false
  | .div64Imm _ _ => false
  | .div64Reg _ _ => false
  | .or32Imm _ _ => false
  | .or32Reg _ _ => false
  | .or64Imm _ _ => false
  | .or64Reg _ _ => false
  | .and32Imm _ _ => false
  | .and32Reg _ _ => false
  | .and64Imm _ _ => false
  | .and64Reg _ _ => false
  | .lsh32Imm _ _ => false
  | .lsh32Reg _ _ => false
  | .lsh64Imm _ _ => false
  | .lsh64Reg _ _ => false
  | .rsh32Imm _ _ => false
  | .rsh32Reg _ _ => false
  | .rsh64Imm _ _ => false
  | .rsh64Reg _ _ => false
  | .neg32 _ => false
  | .neg64 _ => false
  | .mod32Imm _ _ => false
  | .mod32Reg _ _ => false
  | .mod64Imm _ _ => false
  | .mod64Reg _ _ => false
  | .xor32Imm _ _ => false
  | .xor32Reg _ _ => false
  | .xor64Imm _ _ => false
  | .xor64Reg _ _ => false
  | .mov32Imm _ _ => false
  | .mov32Reg _ _ => false
  | .mov64Imm _ _ => false
  | .mov64Reg _ _ => false
  | .arsh32Imm _ _ => false
  | .arsh32Reg _ _ => false
  | .arsh64Imm _ _ => false
  | .arsh64Reg _ _ => false
  | .le16 _ => false
  | .le32 _ => false
  | .le64 _ => false
  | .be16 _ => false
  | .be32 _ => false
  | .be64 _ => false
  | .ja _ => false
  | .jeq64Imm _ _ _ => false
  | .jeq64Reg _ _ _ => false
  | .jeq32Imm _ _ _ => false
  | .jeq32Reg _ _ _ => false
  | .jgt64Imm _ _ _ => false
  | .jgt64Reg _ _ _ => false
  | .jgt32Imm _ _ _ => false
  | .jgt32Reg _ _ _ => false
  | .jge64Imm _ _ _ => false
  | .jge64Reg _ _ _ => false
  | .jge32Imm _ _ _ => false
  | .jge32Reg _ _ _ => false
  | .jset64Imm _ _ _ => false
  | .jset64Reg _ _ _ => false
  | .jset32Imm _ _ _ => false
  | .jset32Reg _ _ _ => false
  | .jne64Imm _ _ _ => false
  | .jne64Reg _ _ _ => false
  | .jne32Imm _ _ _ => false
  | .jne32Reg _ _ _ => false
  | .jsgt64Imm _ _ _ => false
  | .jsgt64Reg _ _ _ => false
  | .jsgt32Imm _ _ _ => false
  | .jsgt32Reg _ _ _ => false
  | .jsge64Imm _ _ _ => false
  | .jsge64Reg _ _ _ => false
  | .jsge32Imm _ _ _ => false
  | .jsge32Reg _ _ _ => false
  | .jlt64Imm _ _ _ => false
  | .jlt64Reg _ _ _ => false
  | .jlt32Imm _ _ _ => false
  | .jlt32Reg _ _ _ => false
  | .jle64Imm _ _ _ => false
  | .jle64Reg _ _ _ => false
  | .jle32Imm _ _ _ => false
  | .jle32Reg _ _ _ => false
  | .jslt64Imm _ _ _ => false
  | .jslt64Reg _ _ _ => false
  | .jslt32Imm _ _ _ => false
  | .jslt32Reg _ _ _ => false
  | .jsle64Imm _ _ _ => false
  | .jsle64Reg _ _ _ => false
  | .jsle32Imm _ _ _ => false
  | .jsle32Reg _ _ _ => false
  | .callHelper _ => false
  | .callLocal _ _ => true
  | .callPlatform _ => false
  | .exit => true
  | .ldxw _ _ _ => false
  | .ldxh _ _ _ => false
  | .ldxb _ _ _ => false
  | .ldxdw _ _ _ => false
  | .stw _ _ _ => false
  | .sth _ _ _ => false
  | .stb _ _ _ => false
  | .stdw _ _ _ => false
  | .stxw _ _ _ => false
  | .stxh _ _ _ => false
  | .stxb _ _ _ => false
  | .stxdw _ _ _ => false
  | .atomicAdd32 _ _ _ => false
  | .atomicFetchAdd32 _ _ _ => false
  | .atomicOr32 _ _ _ => false
  | .atomicFetchOr32 _ _ _ => false
  | .atomicAnd32 _ _ _ => false
  | .atomicFetchAnd32 _ _ _ => false
  | .atomicXor32 _ _ _ => false
  | .atomicFetchXor32 _ _ _ => false
  | .atomicXchg32 _ _ _ => false
  | .atomicCmpxchg32 _ _ _ => false
  | .atomicAdd64 _ _ _ => false
  | .atomicFetchAdd64 _ _ _ => false
  | .atomicOr64 _ _ _ => false
  | .atomicFetchOr64 _ _ _ => false
  | .atomicAnd64 _ _ _ => false
  | .atomicFetchAnd64 _ _ _ => false
  | .atomicXor64 _ _ _ => false
  | .atomicFetchXor64 _ _ _ => false
  | .atomicXchg64 _ _ _ => false
  | .atomicCmpxchg64 _ _ _ => false
  | .lddw _ _ _ => false
  | .ldMapFd _ _ => false
  | .ldMapFdValue _ _ _ => false
  | .ldVarAddr _ _ => false
  | .ldCodeAddr _ _ => false
  | .ldMapIdx _ _ => false
  | .ldMapIdxValue _ _ _ => false
  | .ldabsw _ => false
  | .ldabsh _ => false
  | .ldabsb _ => false
  | .ldabsdw _ => false
  | .ldindw _ => false
  | .ldindh _ => false
  | .ldindb _ => false
  | .ldinddw _ => false

/-- The register whose value an instruction reads through its `dst_reg` field (rule R49, column dst_reg, "r"). -/
def Instr.readsDst : Instr → Option Reg
  | .add32Imm dst _ => some dst
  | .add32Reg dst _ => some dst
  | .add64Imm dst _ => some dst
  | .add64Reg dst _ => some dst
  | .sub32Imm dst _ => some dst
  | .sub32Reg dst _ => some dst
  | .sub64Imm dst _ => some dst
  | .sub64Reg dst _ => some dst
  | .mul32Imm dst _ => some dst
  | .mul32Reg dst _ => some dst
  | .mul64Imm dst _ => some dst
  | .mul64Reg dst _ => some dst
  | .div32Imm dst _ => some dst
  | .div32Reg dst _ => some dst
  | .div64Imm dst _ => some dst
  | .div64Reg dst _ => some dst
  | .or32Imm dst _ => some dst
  | .or32Reg dst _ => some dst
  | .or64Imm dst _ => some dst
  | .or64Reg dst _ => some dst
  | .and32Imm dst _ => some dst
  | .and32Reg dst _ => some dst
  | .and64Imm dst _ => some dst
  | .and64Reg dst _ => some dst
  | .lsh32Imm dst _ => some dst
  | .lsh32Reg dst _ => some dst
  | .lsh64Imm dst _ => some dst
  | .lsh64Reg dst _ => some dst
  | .rsh32Imm dst _ => some dst
  | .rsh32Reg dst _ => some dst
  | .rsh64Imm dst _ => some dst
  | .rsh64Reg dst _ => some dst
  | .neg32 dst => some dst
  | .neg64 dst => some dst
  | .mod32Imm dst _ => some dst
  | .mod32Reg dst _ => some dst
  | .mod64Imm dst _ => some dst
  | .mod64Reg dst _ => some dst
  | .xor32Imm dst _ => some dst
  | .xor32Reg dst _ => some dst
  | .xor64Imm dst _ => some dst
  | .xor64Reg dst _ => some dst
  | .mov32Imm _ _ => none
  | .mov32Reg _ _ => none
  | .mov64Imm _ _ => none
  | .mov64Reg _ _ => none
  | .arsh32Imm dst _ => some dst
  | .arsh32Reg dst _ => some dst
  | .arsh64Imm dst _ => some dst
  | .arsh64Reg dst _ => some dst
  | .le16 dst => some dst
  | .le32 dst => some dst
  | .le64 dst => some dst
  | .be16 dst => some dst
  | .be32 dst => some dst
  | .be64 dst => some dst
  | .ja _ => none
  | .jeq64Imm dst _ _ => some dst
  | .jeq64Reg dst _ _ => some dst
  | .jeq32Imm dst _ _ => some dst
  | .jeq32Reg dst _ _ => some dst
  | .jgt64Imm dst _ _ => some dst
  | .jgt64Reg dst _ _ => some dst
  | .jgt32Imm dst _ _ => some dst
  | .jgt32Reg dst _ _ => some dst
  | .jge64Imm dst _ _ => some dst
  | .jge64Reg dst _ _ => some dst
  | .jge32Imm dst _ _ => some dst
  | .jge32Reg dst _ _ => some dst
  | .jset64Imm dst _ _ => some dst
  | .jset64Reg dst _ _ => some dst
  | .jset32Imm dst _ _ => some dst
  | .jset32Reg dst _ _ => some dst
  | .jne64Imm dst _ _ => some dst
  | .jne64Reg dst _ _ => some dst
  | .jne32Imm dst _ _ => some dst
  | .jne32Reg dst _ _ => some dst
  | .jsgt64Imm dst _ _ => some dst
  | .jsgt64Reg dst _ _ => some dst
  | .jsgt32Imm dst _ _ => some dst
  | .jsgt32Reg dst _ _ => some dst
  | .jsge64Imm dst _ _ => some dst
  | .jsge64Reg dst _ _ => some dst
  | .jsge32Imm dst _ _ => some dst
  | .jsge32Reg dst _ _ => some dst
  | .jlt64Imm dst _ _ => some dst
  | .jlt64Reg dst _ _ => some dst
  | .jlt32Imm dst _ _ => some dst
  | .jlt32Reg dst _ _ => some dst
  | .jle64Imm dst _ _ => some dst
  | .jle64Reg dst _ _ => some dst
  | .jle32Imm dst _ _ => some dst
  | .jle32Reg dst _ _ => some dst
  | .jslt64Imm dst _ _ => some dst
  | .jslt64Reg dst _ _ => some dst
  | .jslt32Imm dst _ _ => some dst
  | .jslt32Reg dst _ _ => some dst
  | .jsle64Imm dst _ _ => some dst
  | .jsle64Reg dst _ _ => some dst
  | .jsle32Imm dst _ _ => some dst
  | .jsle32Reg dst _ _ => some dst
  | .callHelper _ => none
  | .callLocal _ _ => none
  | .callPlatform _ => none
  | .exit => none
  | .ldxw _ _ _ => none
  | .ldxh _ _ _ => none
  | .ldxb _ _ _ => none
  | .ldxdw _ _ _ => none
  | .stw dst _ _ => some dst
  | .sth dst _ _ => some dst
  | .stb dst _ _ => some dst
  | .stdw dst _ _ => some dst
  | .stxw dst _ _ => some dst
  | .stxh dst _ _ => some dst
  | .stxb dst _ _ => some dst
  | .stxdw dst _ _ => some dst
  | .atomicAdd32 dst _ _ => some dst
  | .atomicFetchAdd32 dst _ _ => some dst
  | .atomicOr32 dst _ _ => some dst
  | .atomicFetchOr32 dst _ _ => some dst
  | .atomicAnd32 dst _ _ => some dst
  | .atomicFetchAnd32 dst _ _ => some dst
  | .atomicXor32 dst _ _ => some dst
  | .atomicFetchXor32 dst _ _ => some dst
  | .atomicXchg32 dst _ _ => some dst
  | .atomicCmpxchg32 dst _ _ => some dst
  | .atomicAdd64 dst _ _ => some dst
  | .atomicFetchAdd64 dst _ _ => some dst
  | .atomicOr64 dst _ _ => some dst
  | .atomicFetchOr64 dst _ _ => some dst
  | .atomicAnd64 dst _ _ => some dst
  | .atomicFetchAnd64 dst _ _ => some dst
  | .atomicXor64 dst _ _ => some dst
  | .atomicFetchXor64 dst _ _ => some dst
  | .atomicXchg64 dst _ _ => some dst
  | .atomicCmpxchg64 dst _ _ => some dst
  | .lddw _ _ _ => none
  | .ldMapFd _ _ => none
  | .ldMapFdValue _ _ _ => none
  | .ldVarAddr _ _ => none
  | .ldCodeAddr _ _ => none
  | .ldMapIdx _ _ => none
  | .ldMapIdxValue _ _ _ => none
  | .ldabsw _ => none
  | .ldabsh _ => none
  | .ldabsb _ => none
  | .ldabsdw _ => none
  | .ldindw _ => none
  | .ldindh _ => none
  | .ldindb _ => none
  | .ldinddw _ => none

/-- The register whose value an instruction reads through its `src_reg` field (rule R49, column src_reg, "r"). -/
def Instr.readsSrc : Instr → Option Reg
  | .add32Imm _ _ => none
  | .add32Reg _ src => some src
  | .add64Imm _ _ => none
  | .add64Reg _ src => some src
  | .sub32Imm _ _ => none
  | .sub32Reg _ src => some src
  | .sub64Imm _ _ => none
  | .sub64Reg _ src => some src
  | .mul32Imm _ _ => none
  | .mul32Reg _ src => some src
  | .mul64Imm _ _ => none
  | .mul64Reg _ src => some src
  | .div32Imm _ _ => none
  | .div32Reg _ src => some src
  | .div64Imm _ _ => none
  | .div64Reg _ src => some src
  | .or32Imm _ _ => none
  | .or32Reg _ src => some src
  | .or64Imm _ _ => none
  | .or64Reg _ src => some src
  | .and32Imm _ _ => none
  | .and32Reg _ src => some src
  | .and64Imm _ _ => none
  | .and64Reg _ src => some src
  | .lsh32Imm _ _ => none
  | .lsh32Reg _ src => some src
  | .lsh64Imm _ _ => none
  | .lsh64Reg _ src => some src
  | .rsh32Imm _ _ => none
  | .rsh32Reg _ src => some src
  | .rsh64Imm _ _ => none
  | .rsh64Reg _ src => some src
  | .neg32 _ => none
  | .neg64 _ => none
  | .mod32Imm _ _ => none
  | .mod32Reg _ src => some src
  | .mod64Imm _ _ => none
  | .mod64Reg _ src => some src
  | .xor32Imm _ _ => none
  | .xor32Reg _ src => some src
  | .xor64Imm _ _ => none
  | .xor64Reg _ src => some src
  | .mov32Imm _ _ => none
  | .mov32Reg _ src => some src
  | .mov64Imm _ _ => none
  | .mov64Reg _ src => some src
  | .arsh32Imm _ _ => none
  | .arsh32Reg _ src => some src
  | .arsh64Imm _ _ => none
  | .arsh64Reg _ src => some src
  | .le16 _ => none
  | .le32 _ => none
  | .le64 _ => none
  | .be16 _ => none
  | .be32 _ => none
  | .be64 _ => none
  | .ja _ => none
  | .jeq64Imm _ _ _ => none
  | .jeq64Reg _ src _ => some src
  | .jeq32Imm _ _ _ => none
  | .jeq32Reg _ src _ => some src
  | .jgt64Imm _ _ _ => none
  | .jgt64Reg _ src _ => some src
  | .jgt32Imm _ _ _ => none
  | .jgt32Reg _ src _ => some src
  | .jge64Imm _ _ _ => none
  | .jge64Reg _ src _ => some src
  | .jge32Imm _ _ _ => none
  | .jge32Reg _ src _ => some src
  | .jset64Imm _ _ _ => none
  | .jset64Reg _ src _ => some src
  | .jset32Imm _ _ _ => none
  | .jset32Reg _ src _ => some src
  | .jne64Imm _ _ _ => none
  | .jne64Reg _ src _ => some src
  | .jne32Imm _ _ _ => none
  | .jne32Reg _ src _ => some src
  | .jsgt64Imm _ _ _ => none
  | .jsgt64Reg _ src _ => some src
  | .jsgt32Imm _ _ _ => none
  | .jsgt32Reg _ src _ => some src
  | .jsge64Imm _ _ _ => none
  | .jsge64Reg _ src _ => some src
  | .jsge32Imm _ _ _ => none
  | .jsge32Reg _ src _ => some src
  | .jlt64Imm _ _ _ => none
  | .jlt64Reg _ src _ => some src
  | .jlt32Imm _ _ _ => none
  | .jlt32Reg _ src _ => some src
  | .jle64Imm _ _ _ => none
  | .jle64Reg _ src _ => some src
  | .jle32Imm _ _ _ => none
  | .jle32Reg _ src _ => some src
  | .jslt64Imm _ _ _ => none
  | .jslt64Reg _ src _ => some src
  | .jslt32Imm _ _ _ => none
  | .jslt32Reg _ src _ => some src
  | .jsle64Imm _ _ _ => none
  | .jsle64Reg _ src _ => some src
  | .jsle32Imm _ _ _ => none
  | .jsle32Reg _ src _ => some src
  | .callHelper _ => none
  | .callLocal _ _ => none
  | .callPlatform _ => none
  | .exit => none
  | .ldxw _ src _ => some src
  | .ldxh _ src _ => some src
  | .ldxb _ src _ => some src
  | .ldxdw _ src _ => some src
  | .stw _ _ _ => none
  | .sth _ _ _ => none
  | .stb _ _ _ => none
  | .stdw _ _ _ => none
  | .stxw _ src _ => some src
  | .stxh _ src _ => some src
  | .stxb _ src _ => some src
  | .stxdw _ src _ => some src
  | .atomicAdd32 _ src _ => some src
  | .atomicFetchAdd32 _ src _ => some src
  | .atomicOr32 _ src _ => some src
  | .atomicFetchOr32 _ src _ => some src
  | .atomicAnd32 _ src _ => some src
  | .atomicFetchAnd32 _ src _ => some src
  | .atomicXor32 _ src _ => some src
  | .atomicFetchXor32 _ src _ => some src
  | .atomicXchg32 _ src _ => some src
  | .atomicCmpxchg32 _ src _ => some src
  | .atomicAdd64 _ src _ => some src
  | .atomicFetchAdd64 _ src _ => some src
  | .atomicOr64 _ src _ => some src
  | .atomicFetchOr64 _ src _ => some src
  | .atomicAnd64 _ src _ => some src
  | .atomicFetchAnd64 _ src _ => some src
  | .atomicXor64 _ src _ => some src
  | .atomicFetchXor64 _ src _ => some src
  | .atomicXchg64 _ src _ => some src
  | .atomicCmpxchg64 _ src _ => some src
  | .lddw _ _ _ => none
  | .ldMapFd _ _ => none
  | .ldMapFdValue _ _ _ => none
  | .ldVarAddr _ _ => none
  | .ldCodeAddr _ _ => none
  | .ldMapIdx _ _ => none
  | .ldMapIdxValue _ _ _ => none
  | .ldabsw _ => none
  | .ldabsh _ => none
  | .ldabsb _ => none
  | .ldabsdw _ => none
  | .ldindw _ => none
  | .ldindh _ => none
  | .ldindb _ => none
  | .ldinddw _ => none

/-- The defined values of the opcode byte that are instructions (rule R110: 122 of them). -/
def definedOpcodes : List Nat :=
  [0x04, 0x05, 0x07, 0x0c, 0x0f, 0x14, 0x15, 0x16, 0x17, 0x18, 0x1c, 0x1d, 0x1e, 0x1f, 0x20, 0x24,
   0x25, 0x26, 0x27, 0x28, 0x2c, 0x2d, 0x2e, 0x2f, 0x30, 0x34, 0x35, 0x36, 0x37, 0x38, 0x3c, 0x3d,
   0x3e, 0x3f, 0x40, 0x44, 0x45, 0x46, 0x47, 0x48, 0x4c, 0x4d, 0x4e, 0x4f, 0x50, 0x54, 0x55, 0x56,
   0x57, 0x58, 0x5c, 0x5d, 0x5e, 0x5f, 0x61, 0x62, 0x63, 0x64, 0x65, 0x66, 0x67, 0x69, 0x6a, 0x6b,
   0x6c, 0x6d, 0x6e, 0x6f, 0x71, 0x72, 0x73, 0x74, 0x75, 0x76, 0x77, 0x79, 0x7a, 0x7b, 0x7c, 0x7d,
   0x7e, 0x7f, 0x84, 0x85, 0x87, 0x94, 0x95, 0x97, 0x9c, 0x9f, 0xa4, 0xa5, 0xa6, 0xa7, 0xac, 0xad,
   0xae, 0xaf, 0xb4, 0xb5, 0xb6, 0xb7, 0xbc, 0xbd, 0xbe, 0xbf, 0xc3, 0xc4, 0xc5, 0xc6, 0xc7, 0xcc,
   0xcd, 0xce, 0xcf, 0xd4, 0xd5, 0xd6, 0xdb, 0xdc, 0xdd, 0xde]

namespace Machine

/-! ## How a step ends -/

/-- `target` is a slot of the program (rule R40). -/
def InProgram (s : State) (target : Int) : Prop := 0 ≤ target ∧ target < s.text.length

/-- Instruction `i` completes at `s`: with `t` its effect but for the program counter, the next state is `t` at
`target`; and when `target` is outside the program, the next state is `s` with `PcOutOfRange` raised (rules R40, R46
stage 5, R355). -/
def GoesTo (i : Instr) (s t : State) (target : Int) : Prop :=
  (InProgram s target → exec i s = .next (t.setPc target.toNat)) ∧
  (¬ InProgram s target → exec i s = .next (raise (.pcOutOfRange s.pc target) s))

/-- `GoesTo` the slot after a basic instruction (rule R39). -/
def Completes (i : Instr) (s t : State) : Prop := GoesTo i s t (s.pc + 1)

/-- `GoesTo` the slot after a wide instruction (rule R39). -/
def CompletesWide (i : Instr) (s t : State) : Prop := GoesTo i s t (s.pc + 2)

/-- A conditional jump: to `pc + 1 + off` when the condition holds, to `pc + 1` when not (rules R39, R211). -/
def JumpsIf (i : Instr) (s : State) (condition : Prop) (off : BitVec 16) : Prop :=
  (condition → GoesTo i s s (s.pc + 1 + off.toInt)) ∧ (¬ condition → Completes i s s)

/-- Instruction `i` raises `f` at `s`, and nothing else happens (rule R350). -/
def Raises (i : Instr) (s : State) (f : Fault) : Prop := exec i s = .next (raise f s)

/-- The machine is running and the slot at `pc` holds the word `w`. -/
def RunsWord (s : State) (w : Word) : Prop := s.status = .running ∧ s.text[s.pc]? = some w

/-- The step ends in `IllegalInstruction(pc, w)`, and nothing else happens in it (rules R116, R350). -/
def IllegalStep (s : State) (w : Word) : Prop :=
  step s = .next (raise (.illegalInstruction s.pc w) s.betweenSteps)

/-- At width `w` an amount operand `b` makes the shift go on with the amount `n` (rule R144). -/
def ShiftBy (c : Config) (w b n : Nat) : Prop :=
  (c.shiftPolicy = .mask ∧ n = b % w) ∨ (c.shiftPolicy = .refuse ∧ b < w ∧ n = b)

/-- The place, in address order, of byte `k` of an `n`-byte value, byte 0 being bits 7:0 (rule R60). -/
def byteIndex (bo : ByteOrder) (n k : Nat) : Nat :=
  match bo with
  | .le => k
  | .be => n - 1 - k

/-! ## Memory -/

/-- Where the instruction stores in this state: the lowest address and the width, when it stores at all. -/
def storedRange (i : Instr) (s : State) : Option (Nat × Nat) :=
  match i.stores with
  | none => none
  | some (base, off, n) =>
    match readReg s .dst base with
    | .ok b => some ((effectiveAddr b off).toNat, n)
    | .error _ => none

/-- The instruction makes a plain access to a shared region in this state: the environment may move between its byte
accesses (rules R71, R74). -/
def racesEnvironment (i : Instr) (s : State) : Bool :=
  match i.plainAccess with
  | none => false
  | some (pos, base, off, n) =>
    match readReg s pos base with
    | .ok b => sharedAccess s (effectiveAddr b off) n
    | .error _ => false

/-- What a list of environment moves leaves in the byte at `a`: the last byte written there, where one is, and where
the environment may write there at all (rule R74). -/
def envLast (c : Config) (moves : List (List Host.Cell)) (a : Nat) : Option Byte :=
  if inSharedRegion c a then (moves.flatten.reverse.find? (fun d => d.1 == a)).map Prod.snd else none

/-- The address is none of the `n` bytes from `lo`. -/
def Outside (a lo n : Nat) : Prop := a < lo ∨ lo + n ≤ a

/-- One region contains the range and has the right (rule R66). -/
def Admitted (c : Config) (kind : AccessKind) (addr n : Nat) : Prop :=
  ∃ g ∈ c.allRegions, g.containsRange addr n = true ∧ g.permits kind = true

/-- Some region contains the range. -/
def Mapped (c : Config) (addr n : Nat) : Prop := ∃ g ∈ c.allRegions, g.containsRange addr n = true

/-! ## Invariants -/

/-- What every step keeps: memory is in canonical form (log 7), `pc` is a slot of the program, or 0 in an empty one
(rule R40, R46: "stage (5) keeps pc in range afterwards"), R10 holds a value (rule R35), the call stack is no deeper
than MAX_CALL_DEPTH (rule R44), and every return slot is at most N (rule R355). -/
def Inv (s : State) : Prop :=
  Memory.wf s.mem ∧
  (s.pc < s.text.length ∨ (s.text = [] ∧ s.pc = 0)) ∧
  (∃ v, s.reg 10 = .value v) ∧
  (∀ d, s.cfg.maxCallDepth = some d → s.callStack.length ≤ d) ∧
  (∀ fr ∈ s.callStack, fr.retPc ≤ s.text.length)

/-- The frame pointer of a function at call depth `k`: the entry value less `k` times FRAME_STRIDE, modulo 2^64
(rules R35, R265 (c)). -/
def framePointerAt (c : Config) (k : Nat) : Word := c.entryFramePointer - BitVec.ofNat 64 k * c.frameStride

/-- Every frame of the call stack holds the frame pointer of its own depth. -/
def FramesHold (c : Config) : List Frame → Prop
  | [] => True
  | fr :: rest => fr.s10 = framePointerAt c rest.length ∧ FramesHold c rest

/-- R10 and the frames hold the frame pointers that the call depth gives (rules R35, R264 to R266). -/
def FramePointers (s : State) : Prop :=
  s.reg 10 = .value (framePointerAt s.cfg s.callStack.length) ∧ FramesHold s.cfg s.callStack

end Machine

end Sys2Proof
end

