-- ==== Sys2Proof/Certificates/Slice0/Obligations.lean ====
section
/-! DEFINITION. Sys2Proof/Certificates/Slice0/Obligations.lean: the statements for the provers. Where a statement
speaks of a step's end, `Completes`, `GoesTo`, `JumpsIf` and `Raises` (Safety.lean) say that exec answers a next state
and which. "Can be read" is `readReg … = .ok …`: the register holds a value, or UNINIT_POLICY gives a draw. -/

section
open Sys2Proof Sys2Proof.Machine

/-- The state in which a program is entered (10_state R48, 10_state R35, 70_reset_and_hazards R380; derived). Entering
a program gives pc 0, an empty call stack, status running, no value in R0 and R6 to R9, the entry arguments in R1
to R5 where defined and no value elsewhere, and R10 = STACK_BASE + STACK_SIZE, for every parameter, program, memory
and environment. Where that sum is 2^64 the rules leave R10 open; modulo 2^64 is the choice of the model (log 23). -/
def Obligations.EntryState : Prop :=
  ∀ (cfg : Config) (text : List Word) (mem : List Host.Cell) (env : List EnvStep),
    let s := State.enter cfg text mem env
    s.pc = 0 ∧ s.callStack = [] ∧ s.status = .running ∧ s.text = text ∧ s.mem = mem ∧ s.cfg = cfg ∧
    (∀ r ∈ ([0, 6, 7, 8, 9] : List Reg), s.reg r = .noValue) ∧
    (∀ (k : Nat) (hk : k < 5), s.reg ⟨k + 1, by omega⟩ =
      match cfg.entryArgs[k] with
      | some v => .value v
      | none => .noValue) ∧
    ∃ fp : Word, s.reg 10 = .value fp ∧ fp.toNat = (cfg.stackBase + cfg.stackSize) % 2 ^ 64

/-- The model's reset state: entered with the reference parameters and the model's own choices (10_state R48, 10_state
R35, 00_scope R10, 00_scope R14; derived). Reset is the entry state of an empty program, with the spec's reference
value of every parameter that has one: pc 0, running, empty call stack, nothing listed in memory, R10 = 0x10000200,
R0 and R6 to R9 without a value. These are the model's choices: R1 to R5 = 0 (log 3), the draw policy for reading a
register without a value (log 2), PROGRAM_MAX_SLOTS unbounded, as it has no reference value (log 5), the empty
program (log 6), and an environment with nothing to do: empty queue, no move within a step (log 9). -/
def Obligations.ResetState : Prop :=
  State.reset.pc = 0 ∧ State.reset.status = .running ∧ State.reset.callStack = [] ∧ State.reset.mem = [] ∧
  State.reset.text = [] ∧ State.reset.env = [] ∧ State.reset.during = [] ∧ State.reset.times = [] ∧
  State.reset.reg 10 = .value 0x10000200 ∧
  (∀ r ∈ ([0, 6, 7, 8, 9] : List Reg), State.reset.reg r = .noValue) ∧
  (∀ r ∈ ([1, 2, 3, 4, 5] : List Reg), State.reset.reg r = .value 0) ∧
  State.reset.cfg = { Config.reference with
    uninitPolicy := .draw, entryArgs := #v[some 0, some 0, some 0, some 0, some 0] }

/-- A program image in either byte order is decoded once to its canonical words (30_encoding R92, 30_encoding R93,
20_memory R61, 70_reset_and_hazards R382; derived). Laying out canonical words as slots of eight bytes in a byte
order and reading the image back in the same byte order gives the words, for every list of words; the host can load
it exactly when it has at least one slot and no more than PROGRAM_MAX_SLOTS, and then enters the program with those
words. -/
def Obligations.LoadingDecodesTheImage : Prop :=
  ∀ (cfg : Config) (ws : List Word) (mem : List Host.Cell) (env : List EnvStep),
    imageWords cfg.byteOrder (ws.flatMap (slotBytes cfg.byteOrder)) = some ws ∧
    State.loadImage cfg (ws.flatMap (slotBytes cfg.byteOrder)) mem env =
      if 1 ≤ ws.length ∧ (∀ k, cfg.programMaxSlots = some k → ws.length ≤ k)
      then some (State.enter cfg ws mem env) else none

/-- A step of a running machine executes the instruction its fetched words decode to (10_state R46, 20_memory R74;
derived). When the machine is running, the slot at pc holds w, and w with the slot after it decodes to i, a step is
the execution of i (R46) in the state after what the environment does between the steps (R74). The form of that
state is the choice of the model: one entry of a queue for each step (log 8) and a count of the steps that selects
the free values (log 18). It differs from the state before only in the count (one more), the queue (its head taken
off), the moves within the step (the head's), and the memory bytes the head writes before the step. -/
def Obligations.StepRunsTheDecodedInstruction : Prop :=
  ∀ (s : State) (w : Word) (i : Instr), RunsWord s w →
    decode s.cfg.localCallField w s.text[s.pc + 1]? = .ok i →
    step s = exec i s.betweenSteps ∧
    s.betweenSteps = { s with
      draws := s.draws + 1
      env := s.env.tail
      during := match s.env with
        | [] => []
        | e :: _ => e.during
      times := match s.env with
        | [] => []
        | e :: _ => e.times
      mem := match s.env with
        | [] => s.mem
        | e :: _ => Memory.setCells s.mem (e.before.filter (fun c => inSharedRegion s.cfg c.1)) }

/-- A fetch outside the program and an undecodable word are faults (10_state R46, 60_exceptions R355, 60_exceptions
R352; derived). When the machine is running: with no slot at pc the step ends in PcOutOfRange(pc, pc), so an empty
program ends in PcOutOfRange(0, 0); with a word the decoder does not accept it ends in IllegalInstruction(pc, w).
Nothing else happens in the step. -/
def Obligations.FetchFaults : Prop :=
  (∀ s : State, s.status = .running → s.text[s.pc]? = none →
    step s = .next (raise (.pcOutOfRange s.pc s.pc) s.betweenSteps)) ∧
  (∀ (cfg : Config) (mem : List Host.Cell) (env : List EnvStep),
    step (State.enter cfg [] mem env) =
      .next (raise (.pcOutOfRange 0 0) (State.enter cfg [] mem env).betweenSteps)) ∧
  (∀ (s : State) (w : Word) (e : DecodeError), RunsWord s w →
    decode s.cfg.localCallField w s.text[s.pc + 1]? = .error e → IllegalStep s w)

/-- The run status starts as running, and a machine that has exited or faulted has no further step (10_state R45;
stated). Every run starts with status running; in a state whose status is exited(v) or faulted(F), for every v and
F, step answers no next state. -/
def Obligations.HaltedMachineHasNoStep : Prop :=
  (∀ (cfg : Config) (text : List Word) (mem : List Host.Cell) (env : List EnvStep),
    (State.enter cfg text mem env).status = .running) ∧
  (∀ (s : State) (v : Word), s.status = .exited v → ∀ t, step s ≠ .next t) ∧
  (∀ (s : State) (f : Fault), s.status = .faulted f → ∀ t, step s ≠ .next t)

/-- The reset state satisfies both invariants, and so does every entry state with admitted parameters (10_state R48,
10_state R40, 43_call_exit R265; derived). The reset state satisfies Inv and FramePointers. So does every state in
which a program of at least one slot is entered with a memory in canonical form. -/
def Obligations.ResetHasTheInvariants : Prop :=
  Inv State.reset ∧ FramePointers State.reset ∧
  ∀ (cfg : Config) (text : List Word) (mem : List Host.Cell) (env : List EnvStep),
    text ≠ [] → Memory.wf mem →
    Inv (State.enter cfg text mem env) ∧ FramePointers (State.enter cfg text mem env)

/-- Every step keeps memory canonical, pc in the program, R10 valued and the call stack bounded (10_state R40, 10_state
R46, 10_state R44, 60_exceptions R355; derived). From every state that satisfies Inv (memory in canonical form, pc
a slot of the program or 0 in an empty one, R10 holding a value, call depth at most MAX_CALL_DEPTH, every return
slot at most N), a step that answers a next state gives one that satisfies Inv, for every parameter, instruction
and environment move. -/
def Obligations.StepKeepsTheInvariant : Prop :=
  ∀ s t : State, Inv s → step s = .next t → Inv t

/-- R10 is always the entry frame pointer less depth times FRAME_STRIDE, and the frames hold the earlier ones (10_state
R35, 43_call_exit R265, 43_call_exit R266; derived). From every state in which R10 is STACK_BASE + STACK_SIZE -
depth * FRAME_STRIDE (modulo 2^64, the choice of log 23 where the sum is 2^64) and each frame holds that value for
its own depth, a step that answers a next state gives such a state: no instruction but a BPF-local call and its
return changes R10, and the return brings the caller value back. -/
def Obligations.StepKeepsTheFramePointers : Prop :=
  ∀ s t : State, FramePointers s → step s = .next t → FramePointers t

/-- The program text and the parameters are the same for the whole run (20_memory R78, 10_state R42; derived). A step
that answers a next state leaves the program text as it was, whatever instruction it runs and whatever the
environment and helpers write: no store can change an instruction (R78). The configuration record is unchanged too:
the parameters are fixed for a run (R42), and the model holds them in its state (log 1, the choice of the model). -/
def Obligations.StepNeverChangesProgramOrParameters : Prop :=
  ∀ s t : State, step s = .next t → t.text = s.text ∧ t.cfg = s.cfg

/-- No step changes a byte that lies in no region (20_memory R63, 20_memory R66, 20_memory R74, 43_call_exit R262;
derived). A step that answers a next state leaves every byte of memory that lies in no region of REGIONS (the stack
region included) as it was: stores and atomics are admitted only inside one region, helpers write only bytes of
regions, the environment only bytes of shared regions. -/
def Obligations.MemoryOutsideRegionsNeverChanges : Prop :=
  ∀ (s t : State) (a : Nat), step s = .next t → inSomeRegion s.cfg a = false →
    Memory.lookup t.mem a = Memory.lookup s.mem a

/-- A byte only in regions neither writable nor shared is changed by no step but a helper call (20_memory R66,
20_memory R74, 20_memory R82; derived). A step that answers a next state and does not run a helper call leaves
every byte as it was that lies only in regions without write permission that are not shared: neither a store nor an
atomic of the program nor the environment can change it. -/
def Obligations.ReadOnlyPrivateMemoryNeverChanges : Prop :=
  ∀ (s t : State) (a : Nat), step s = .next t →
    (∀ i, fetch s.betweenSteps = .ok i → i.isHelperCall = false) →
    (∀ g ∈ s.cfg.allRegions, g.containsRange a 1 = true → g.writable = false ∧ g.shared = false) →
    Memory.lookup t.mem a = Memory.lookup s.mem a

/-- Between steps only bytes of shared regions can change; a private byte that nothing writes reads the same from step
to step (20_memory R74, 60_exceptions R364, 20_memory R72, 20_memory R62; derived). What happens between two steps
(the moves of the environment before a step, which the model takes from a queue: log 8) leaves the registers, pc,
the call stack, the status, the text and the parameters as they were, and every byte of memory that lies in a
region that is not shared, or in no region. Such a byte reads as before, unless it is a byte of the stack that
nothing has written, whose reads are draws (R62); and it reads as before after the whole step too, when the step
runs an instruction that is no helper call and does not store to it: two reads of a byte that no agent wrote in
between return the same value (R72). How an unwritten byte reads is log 7. -/
def Obligations.EnvironmentTouchesOnlySharedMemory : Prop :=
  ∀ s : State, s.betweenSteps.regs = s.regs ∧ s.betweenSteps.pc = s.pc ∧ s.betweenSteps.callStack = s.callStack ∧
    s.betweenSteps.status = s.status ∧ s.betweenSteps.text = s.text ∧ s.betweenSteps.cfg = s.cfg ∧
    ∀ a : Nat, ((∃ g ∈ s.cfg.allRegions, g.containsRange a 1 = true ∧ g.shared = false) ∨
        (∀ g ∈ s.cfg.allRegions, g.containsRange a 1 = false)) →
      Memory.lookup s.betweenSteps.mem a = Memory.lookup s.mem a ∧
      (s.cfg.stackRegion.containsRange a 1 = false ∨ Memory.lookup s.mem a ≠ none →
        s.betweenSteps.byteAt a = s.byteAt a ∧
        ∀ (w : Word) (i : Instr) (t : State), RunsWord s w →
          decode s.cfg.localCallField w s.text[s.pc + 1]? = .ok i → i.isHelperCall = false →
          (∀ lo n, storedRange i s.betweenSteps = some (lo, n) → Outside a lo n) →
          step s = .next t → t.byteAt a = s.byteAt a)

/-- Every instruction leaves unchanged each register it does not write (10_state R49, 10_state R33; derived). For every
instruction: when exec answers a next state, every register outside the instruction's written registers is
unchanged. Those are (rule R49): dst_reg of an arithmetic, byte swap, load or wide instruction; src_reg of an
atomic with fetch and of an exchange; R0 of a compare-and-exchange; R0 to R5 of a helper call; R0 and R6 to R10 of
a BPF-local call; R1 to R10 of an exit; none of a jump, a store, a simple atomic or a legacy opcode. -/
def Obligations.FrameOfRegisters : Prop :=
  ∀ (i : Instr) (s t : State) (r : Reg), exec i s = .next t → r ∉ i.writes → t.reg r = s.reg r

/-- Every instruction but a helper call leaves each byte outside the range it stores to, but for the environment
(10_state R49, 20_memory R63, 20_memory R64, 20_memory R71, 20_memory R74; derived). For every instruction but the
two helper calls: when exec answers a next state, every byte outside the bytes the instruction stores to reads as
before. A store or atomic of n bytes stores to the n bytes from the effective address of its dst_reg and offset;
every other instruction stores nothing, and every byte reads as before. One exception: between the byte accesses of
a plain load or store to a shared region the environment may write (R71, R74); then a byte reads as before or as
the last of those moves (which the model holds in its state: log 8) left it, and only a byte of a shared region can
differ. -/
def Obligations.FrameOfMemory : Prop :=
  ∀ (i : Instr) (s t : State) (a : Nat), exec i s = .next t → i.isHelperCall = false →
    (∀ lo n, storedRange i s = some (lo, n) → Outside a lo n) →
    (racesEnvironment i s = false ∨ inSharedRegion s.cfg a = false → t.byteAt a = s.byteAt a) ∧
    (t.byteAt a = s.byteAt a ∨ t.byteAt a = (envLast s.cfg s.during a).getD (s.byteAt a))

/-- Only a BPF-local call and exit touch the call stack; no instruction touches text or parameters, or the model's own
fields (10_state R44, 10_state R49, 20_memory R78; derived). For every instruction: when exec answers a next state,
the text is unchanged (R78), and so is the call stack unless the instruction is a BPF-local call or exit (R44). The
parameters, which the model holds in its state (log 1, the choice of the model), are unchanged too, and so are the
fields that are the own of the model and of which no rule speaks: the count of draws (log 18), and the queue of
environment moves, the moves within the step and the times of its byte accesses (log 8). -/
def Obligations.FrameOfCallStackAndHiddenState : Prop :=
  ∀ (i : Instr) (s t : State), exec i s = .next t →
    t.text = s.text ∧ t.cfg = s.cfg ∧ t.draws = s.draws ∧ t.env = s.env ∧
    t.during = s.during ∧ t.times = s.times ∧ (i.usesCallStack = false → t.callStack = s.callStack)

/-- The status changes only by a fault, which changes nothing else, or by exit at depth 0 (60_exceptions R350, 10_state
R45, 43_call_exit R266; derived). For every instruction: when exec answers a next state, either the status is
unchanged, or a fault was raised and the next state differs from the one before in the status alone, or the
instruction is exit with an empty call stack and the next state differs in the status alone, which is exited with
the value read from R0. -/
def Obligations.StatusChangesOnlyByFaultOrExit : Prop :=
  ∀ (i : Instr) (s t : State), exec i s = .next t →
    t.status = s.status ∨ (∃ f, t = { s with status := .faulted f }) ∨
    (i = .exit ∧ s.callStack = [] ∧ ∃ v, readReg s .r0 0 = .ok v ∧ t = { s with status := .exited v })

/-- Decoding the bytes of any well-formed instruction gives the instruction and the bytes after it (30_encoding R92,
30_encoding R93, 30_encoding R109, 30_encoding R116; derived). For both byte orders, both choices of
LOCAL_CALL_FIELD, every well-formed instruction with every operand value, and any bytes after it: decoding the
bytes of its encoding gives the instruction itself and leaves exactly the bytes after it. -/
def Obligations.DecodeOfEncode : Prop :=
  ∀ (bo : ByteOrder) (lcf : LocalCallField) (i : Instr) (rest : List Byte), i.wf lcf = true →
    decodeBytes bo lcf (encodeBytes bo i ++ rest) = .ok (i, rest)

/-- A word the decoder accepts is exactly the encoding of the well-formed instruction it gives (30_encoding R116,
30_encoding R119, 30_encoding R120, 30_encoding R124; derived). When the decoder accepts a word (and the word after
it), the instruction it gives is well formed and its encoding is that word, or, for a wide instruction, those two
words: every bit of the words is accounted for, so a word with a nonzero unused field, a register number above 10,
or R10 in a written position is never accepted. -/
def Obligations.EncodeOfDecode : Prop :=
  ∀ (lcf : LocalCallField) (w : Word) (w2 : Option Word) (i : Instr), decode lcf w w2 = .ok i →
    i.wf lcf = true ∧ (encode i = [w] ∨ ∃ v, w2 = some v ∧ encode i = [w, v])

/-- The source's encoding example in both byte orders (30_encoding R95; stated). The eight bytes 07 01 00 00 44 33 22
11 in little-endian BPF and 07 10 00 00 11 22 33 44 in big-endian BPF both have the canonical word
0x1122334400000107 and decode to r1 += 0x11223344, which has opcode 0x07, dst_reg 1, src_reg 0, offset 0, imm
0x11223344. -/
def Obligations.SourceEncodingExample : Prop :=
  imageWords .le [0x07, 0x01, 0x00, 0x00, 0x44, 0x33, 0x22, 0x11] = some [0x1122334400000107] ∧
  imageWords .be [0x07, 0x10, 0x00, 0x00, 0x11, 0x22, 0x33, 0x44] = some [0x1122334400000107] ∧
  Fields.ofWord 0x1122334400000107 = { opcode := 0x07, dst := 1, src := 0, off := 0, imm := 0x11223344 } ∧
  (∀ lcf, decodeBytes .le lcf [0x07, 0x01, 0x00, 0x00, 0x44, 0x33, 0x22, 0x11] =
    .ok (.add64Imm 1 0x11223344, [])) ∧
  (∀ lcf, decodeBytes .be lcf [0x07, 0x10, 0x00, 0x00, 0x11, 0x22, 0x33, 0x44] =
    .ok (.add64Imm 1 0x11223344, []))

/-- Words written out in the spec decode to the instructions they stand for (40_alu R153, 41_byteswap R205, 42_jump
R243, 43_call_exit R264, 43_call_exit R266, 44_load_store R273, 44_load_store R279, 44_load_store R282, 45_atomic
R295, 45_atomic R313, 46_imm64 R321, 47_legacy_packet R336; derived). Twelve words, each as the example of its rule
writes it: add64 (register), be32, jsge32 (register), call_local, exit, ldxh, stdw, stxb, atomic_fetch_add32,
atomic_cmpxchg64, lddw, ldabsw. -/
def Obligations.WordsDecodeAsTheSpecWritesThem : Prop :=
  decodeTableWord 64 0x000000000000210F = some (.add64Reg 1 2) ∧
  decodeTableWord 64 0x00000020000001DC = some (.be32 1) ∧
  decodeTableWord 64 0x000000000003217E = some (.jsge32Reg 1 2 3) ∧
  decodeTableWord 64 0x0000000000021085 = some (.callLocal 2 0) ∧
  decodeTableWord 64 0x0000000000000095 = some .exit ∧
  decodeTableWord 64 0x00000000FFF82169 = some (.ldxh 1 2 0xFFF8) ∧
  decodeTableWord 64 0xFFFFFFFEFFF80A7A = some (.stdw 10 0xFFF8 0xFFFFFFFE) ∧
  decodeTableWord 64 0x00000000FFF81A73 = some (.stxb 10 1 0xFFF8) ∧
  decodeTableWord 64 0x00000001FFF81AC3 = some (.atomicFetchAdd32 10 1 0xFFF8) ∧
  decodeTableWord 64 0x000000F1FFF81ADB = some (.atomicCmpxchg64 10 1 0xFFF8) ∧
  decodeTableWord 128 0x11223344000000008000000100000118 = some (.lddw 1 0x80000001 0x11223344) ∧
  decodeTableWord 64 0x0000000000000020 = some (.ldabsw 0)

/-- Opcode 0x00 reached as an instruction raises IllegalInstruction (30_encoding R117; stated). When control reaches a
slot whose opcode byte is 0x00, whatever its other fields, decoding raises IllegalInstruction(pc, w) and nothing
else happens in the step. -/
def Obligations.OpcodeZeroIsIllegal : Prop :=
  ∀ (s : State) (w : Word), RunsWord s w → (Fields.ofWord w).opcode = 0x00 → IllegalStep s w

/-- Every opcode byte outside the opcode map raises IllegalInstruction (30_encoding R118; stated). When control reaches
a slot whose opcode byte is not one of the defined values of rule R110, whatever its other fields, the step ends in
IllegalInstruction(pc, w); there are 122 defined instruction opcodes, and the bytes rule R118 names as undefined
are not among them. -/
def Obligations.UndefinedOpcodesAreIllegal : Prop :=
  (∀ (s : State) (w : Word), RunsWord s w → (Fields.ofWord w).opcode.toNat ∉ definedOpcodes → IllegalStep s w) ∧
  definedOpcodes.length = 122 ∧ definedOpcodes.Nodup ∧
  (∀ op ∈ [0x08, 0x10, 0x60, 0xcb, 0xd3, 0xe4, 0xec, 0xf4, 0xfc, 0x8c, 0x8f, 0xd7, 0xdf, 0x0d, 0x8d, 0x9d,
    0x06, 0x0e, 0x86, 0x8e, 0x96, 0x9e], op ∉ definedOpcodes) ∧
  definedOpcodes.filter (fun op => op % 8 = 0) = [0x18, 0x20, 0x28, 0x30, 0x38, 0x40, 0x48, 0x50, 0x58] ∧
  definedOpcodes.filter (fun op => op % 8 = 1) = [0x61, 0x69, 0x71, 0x79] ∧
  definedOpcodes.filter (fun op => op % 8 = 2) = [0x62, 0x6a, 0x72, 0x7a] ∧
  definedOpcodes.filter (fun op => op % 8 = 3) = [0x63, 0x6b, 0x73, 0x7b, 0xc3, 0xdb] ∧
  (∀ op ∈ definedOpcodes, op < 0xe0)

/-- A shared opcode with an undefined selector raises IllegalInstruction (30_encoding R121; stated). Opcode 0xd4 or
0xdc with imm other than 16, 32, 64; 0xc3 or 0xdb with imm other than the ten selectors; 0x85 with src_reg other
than 0, 1, 2; 0x18 with src_reg above 6: the step ends in IllegalInstruction(pc, w). -/
def Obligations.UndefinedSelectorsAreIllegal : Prop :=
  ∀ (s : State) (w : Word), RunsWord s w →
    (((Fields.ofWord w).opcode = 0xd4 ∨ (Fields.ofWord w).opcode = 0xdc) ∧
        (Fields.ofWord w).imm.toNat ∉ [16, 32, 64] ∨
     ((Fields.ofWord w).opcode = 0xc3 ∨ (Fields.ofWord w).opcode = 0xdb) ∧
        (Fields.ofWord w).imm.toNat ∉ [0x00, 0x01, 0x40, 0x41, 0x50, 0x51, 0xa0, 0xa1, 0xe1, 0xf1] ∨
     (Fields.ofWord w).opcode = 0x85 ∧ (Fields.ofWord w).src.toNat ∉ [0, 1, 2] ∨
     (Fields.ofWord w).opcode = 0x18 ∧ (Fields.ofWord w).src.toNat ∉ [0, 1, 2, 3, 4, 5, 6]) →
    IllegalStep s w

/-- A wide instruction whose second slot is missing or not clear raises IllegalInstruction (30_encoding R97,
30_encoding R116, 30_encoding R119, 46_imm64 R320; derived). When the slot at pc has opcode 0x18: with no slot
after it, or with a slot after it whose low 32 bits are not zero, or, for the subtypes 1, 3, 4 and 5, whose high 32
bits are not zero, the step ends in IllegalInstruction(pc, w). -/
def Obligations.WideInstructionNeedsItsSecondSlot : Prop :=
  ∀ (s : State) (w : Word), RunsWord s w → (Fields.ofWord w).opcode = 0x18 →
    (s.text[s.pc + 1]? = none ∨
     (∃ v, s.text[s.pc + 1]? = some v ∧ v.extractLsb' 0 32 ≠ 0) ∨
     (∃ v, s.text[s.pc + 1]? = some v ∧ v.extractLsb' 32 32 ≠ 0 ∧ (Fields.ofWord w).src.toNat ∈ [1, 3, 4, 5])) →
    IllegalStep s w

/-- The eight legacy opcodes raise UnsupportedFeature whatever the other fields hold (30_encoding R123; stated). When
control reaches a slot with one of the eight legacy opcodes, whatever its other 56 bits and whatever
HAS_LEGACY_PACKET says, the word is accepted by the decoder and the step ends in UnsupportedFeature(pc,
legacy_packet); each of the eight instructions has that meaning in every state. -/
def Obligations.LegacyOpcodesAreUnsupported : Prop :=
  (∀ (s : State) (w : Word), RunsWord s w →
    (Fields.ofWord w).opcode.toNat ∈ [0x20, 0x28, 0x30, 0x38, 0x40, 0x48, 0x50, 0x58] →
    (∃ i, decode s.cfg.localCallField w s.text[s.pc + 1]? = .ok i) ∧
    step s = .next (raise (.unsupportedFeature s.pc .legacyPacket) s.betweenSteps)) ∧
  (∀ (s : State) (rest : BitVec 56),
    ∀ i ∈ [Instr.ldabsw rest, .ldabsh rest, .ldabsb rest, .ldabsdw rest,
      .ldindw rest, .ldindh rest, .ldindb rest, .ldinddw rest],
    exec i s = .next (raise (.unsupportedFeature s.pc .legacyPacket) s))

/-- No decoded instruction writes R10 but a BPF-local call and exit; exec of one that would is illegal (10_state R33,
30_encoding R124; derived). An instruction the decoder gives has R10 in no written position, except that a BPF-
local call and exit set it; so no step runs one (R33, R124). What exec does with such an instruction, which the
decoder never gives, is the choice of the model (log 12): it raises IllegalInstruction with the word at pc, or 0
where there is no slot, and changes nothing else. -/
def Obligations.FramePointerIsNeverWritten : Prop :=
  (∀ (lcf : LocalCallField) (w : Word) (w2 : Option Word) (i : Instr), decode lcf w w2 = .ok i →
    i.usesCallStack = false → (10 : Reg) ∉ i.writes) ∧
  (∀ (i : Instr) (s : State), i.usesCallStack = false → (10 : Reg) ∈ i.writes →
    exec i s = .next (raise (.illegalInstruction s.pc (s.text[s.pc]?.getD 0)) s))

/-- A register read gives the value held, or a fault or a draw for a register that holds none (10_state R36; derived).
Reading a register that holds a value gives it; reading one that holds no value raises UninitializedRegister(pc, r)
under UNINIT_POLICY = fault and, under draw, gives a free value, at every operand position. -/
def Obligations.ReadingARegister : Prop :=
  ∀ (s : State) (pos : ReadPos) (r : Reg),
    (∀ v, s.reg r = .value v → readReg s pos r = .ok v) ∧
    (s.reg r = .noValue → s.cfg.uninitPolicy = .fault → readReg s pos r = .error (.uninitializedRegister s.pc r)) ∧
    (s.reg r = .noValue → s.cfg.uninitPolicy = .draw → ∃ v, readReg s pos r = .ok v)

/-- A register that cannot be read ends the instruction: dst first, then src, then the implicit R0 (60_exceptions R353,
10_state R46, 10_state R49; derived). For every instruction that has no R10 in a written position: if the register
its dst_reg names must be read and cannot be, the instruction raises that fault; if that one can be read, or need
not be, and the register its src_reg names cannot be read, it raises the fault of that one; a compare-and-exchange
whose two register operands can be read raises the fault of R0, and exit at depth 0 raises that of R0. Nothing else
happens. -/
def Obligations.ReadFaultsInOrder : Prop :=
  (∀ (i : Instr) (s : State) (d : Reg) (f : Fault), (10 : Reg) ∉ i.writes → i.readsDst = some d →
    readReg s .dst d = .error f → Raises i s f) ∧
  (∀ (i : Instr) (s : State) (r : Reg) (f : Fault), (10 : Reg) ∉ i.writes → i.readsSrc = some r →
    (∀ d, i.readsDst = some d → ∃ a, readReg s .dst d = .ok a) → readReg s .src r = .error f → Raises i s f) ∧
  (∀ (s : State) (d r : Reg) (off : BitVec 16) (a b : Word) (f : Fault), readReg s .dst d = .ok a →
    readReg s .src r = .ok b → readReg s .r0 0 = .error f →
    Raises (.atomicCmpxchg32 d r off) s f ∧ Raises (.atomicCmpxchg64 d r off) s f) ∧
  (∀ (s : State) (f : Fault), s.callStack = [] → readReg s .r0 0 = .error f → Raises .exit s f)

/-- 64-bit addition, subtraction and multiplication: the exact signed result modulo 2^64 (40_alu R142, 40_alu R140,
30_encoding R107; derived). add64, sub64 and mul64, with the sign-extended immediate or with a register, write the
true result modulo 2^64 to dst and go to the next slot; register reads come before the write, so dst and src may be
the same register. Flags: there are none. -/
def Obligations.AddSubMul64 : Prop :=
  ∀ (s : State) (d : Reg) (a : Word), d ≠ 10 → readReg s .dst d = .ok a →
    (∀ imm : BitVec 32,
      Completes (.add64Imm d imm) s (s.write d (BitVec.ofInt 64 (a.toInt + imm.toInt))) ∧
      Completes (.sub64Imm d imm) s (s.write d (BitVec.ofInt 64 (a.toInt - imm.toInt))) ∧
      Completes (.mul64Imm d imm) s (s.write d (BitVec.ofInt 64 (a.toInt * imm.toInt)))) ∧
    (∀ (r : Reg) (b : Word), readReg s .src r = .ok b →
      Completes (.add64Reg d r) s (s.write d (BitVec.ofInt 64 (a.toInt + b.toInt))) ∧
      Completes (.sub64Reg d r) s (s.write d (BitVec.ofInt 64 (a.toInt - b.toInt))) ∧
      Completes (.mul64Reg d r) s (s.write d (BitVec.ofInt 64 (a.toInt * b.toInt))))

/-- 32-bit addition, subtraction and multiplication: the exact result modulo 2^32, zero-extended (40_alu R142, 40_alu
R145, 10_state R34; derived). add32, sub32 and mul32, with an immediate or with a register, write to dst the true
result of the 32-bit operands modulo 2^32, zero-extended to 64 bits, and go to the next slot; the upper halves of
the operands do not matter. -/
def Obligations.AddSubMul32 : Prop :=
  ∀ (s : State) (d : Reg) (a : Word), d ≠ 10 → readReg s .dst d = .ok a →
    (∀ imm : BitVec 32,
      Completes (.add32Imm d imm) s (s.write d ((BitVec.ofInt 32 (a.toInt + imm.toInt)).zeroExtend 64)) ∧
      Completes (.sub32Imm d imm) s (s.write d ((BitVec.ofInt 32 (a.toInt - imm.toInt)).zeroExtend 64)) ∧
      Completes (.mul32Imm d imm) s (s.write d ((BitVec.ofInt 32 (a.toInt * imm.toInt)).zeroExtend 64))) ∧
    (∀ (r : Reg) (b : Word), readReg s .src r = .ok b →
      Completes (.add32Reg d r) s (s.write d ((BitVec.ofInt 32 (a.toInt + b.toInt)).zeroExtend 64)) ∧
      Completes (.sub32Reg d r) s (s.write d ((BitVec.ofInt 32 (a.toInt - b.toInt)).zeroExtend 64)) ∧
      Completes (.mul32Reg d r) s (s.write d ((BitVec.ofInt 32 (a.toInt * b.toInt)).zeroExtend 64)))

/-- Bitwise or, and, exclusive or at both widths (40_alu R147, 40_alu R140, 40_alu R141; derived). or, and, xor write
to dst, at 64 bits, the operation of dst and the sign-extended immediate or the register; at 32 bits, that of the
low halves, zero-extended; and go to the next slot. -/
def Obligations.Bitwise : Prop :=
  ∀ (s : State) (d : Reg) (a : Word), d ≠ 10 → readReg s .dst d = .ok a →
    (∀ imm : BitVec 32, let b := (BitVec.ofInt 64 imm.toInt).toNat
      Completes (.or64Imm d imm) s (s.write d (BitVec.ofNat 64 (a.toNat ||| b))) ∧
      Completes (.and64Imm d imm) s (s.write d (BitVec.ofNat 64 (a.toNat &&& b))) ∧
      Completes (.xor64Imm d imm) s (s.write d (BitVec.ofNat 64 (a.toNat ^^^ b))) ∧
      Completes (.or32Imm d imm) s (s.write d (BitVec.ofNat 64 (a.toNat % 2 ^ 32 ||| imm.toNat))) ∧
      Completes (.and32Imm d imm) s (s.write d (BitVec.ofNat 64 (a.toNat % 2 ^ 32 &&& imm.toNat))) ∧
      Completes (.xor32Imm d imm) s (s.write d (BitVec.ofNat 64 (a.toNat % 2 ^ 32 ^^^ imm.toNat)))) ∧
    (∀ (r : Reg) (b : Word), readReg s .src r = .ok b →
      Completes (.or64Reg d r) s (s.write d (BitVec.ofNat 64 (a.toNat ||| b.toNat))) ∧
      Completes (.and64Reg d r) s (s.write d (BitVec.ofNat 64 (a.toNat &&& b.toNat))) ∧
      Completes (.xor64Reg d r) s (s.write d (BitVec.ofNat 64 (a.toNat ^^^ b.toNat))) ∧
      Completes (.or32Reg d r) s (s.write d (BitVec.ofNat 64 ((a.toNat ||| b.toNat) % 2 ^ 32))) ∧
      Completes (.and32Reg d r) s (s.write d (BitVec.ofNat 64 ((a.toNat &&& b.toNat) % 2 ^ 32))) ∧
      Completes (.xor32Reg d r) s (s.write d (BitVec.ofNat 64 ((a.toNat ^^^ b.toNat) % 2 ^ 32))))

/-- Division and modulo are unsigned; a zero divisor gives 0 and the dividend (40_alu R143; stated). div and mod at
both widths, with an immediate (taken as an unsigned 32-bit value at 32 bits, sign-extended and taken as an
unsigned 64-bit value at 64 bits) or a register: the quotient of natural numbers rounded toward zero, and the
remainder; with divisor zero, div writes 0 (all 64 bits), mod64 the unchanged value, mod32 the low half zero-
extended. No fault. -/
def Obligations.DivisionAndModulo : Prop :=
  ∀ (s : State) (d : Reg) (a : Word), d ≠ 10 → readReg s .dst d = .ok a →
    (∀ imm : BitVec 32, let b := (BitVec.ofInt 64 imm.toInt).toNat
      Completes (.div64Imm d imm) s (s.write d (BitVec.ofNat 64 (if b = 0 then 0 else a.toNat / b))) ∧
      Completes (.mod64Imm d imm) s (s.write d (BitVec.ofNat 64 (if b = 0 then a.toNat else a.toNat % b)))) ∧
    (∀ imm : BitVec 32, let a32 := a.toNat % 2 ^ 32; let b := imm.toNat
      Completes (.div32Imm d imm) s (s.write d (BitVec.ofNat 64 (if b = 0 then 0 else a32 / b))) ∧
      Completes (.mod32Imm d imm) s (s.write d (BitVec.ofNat 64 (if b = 0 then a32 else a32 % b)))) ∧
    (∀ (r : Reg) (v : Word), readReg s .src r = .ok v → let b := v.toNat
      Completes (.div64Reg d r) s (s.write d (BitVec.ofNat 64 (if b = 0 then 0 else a.toNat / b))) ∧
      Completes (.mod64Reg d r) s (s.write d (BitVec.ofNat 64 (if b = 0 then a.toNat else a.toNat % b)))) ∧
    (∀ (r : Reg) (v : Word), readReg s .src r = .ok v → let a32 := a.toNat % 2 ^ 32; let b := v.toNat % 2 ^ 32
      Completes (.div32Reg d r) s (s.write d (BitVec.ofNat 64 (if b = 0 then 0 else a32 / b))) ∧
      Completes (.mod32Reg d r) s (s.write d (BitVec.ofNat 64 (if b = 0 then a32 else a32 % b))))

/-- 64-bit shifts: amount masked to 6 bits, or refused at 64 or more under SHIFT_POLICY = refuse (40_alu R144, 40_alu
R142; derived). lsh64 multiplies by 2^n modulo 2^64, rsh64 divides the unsigned value by 2^n, arsh64 the signed
value rounding down, where n is the low 6 bits of the amount operand under SHIFT_POLICY = mask, and the operand
itself, when below 64, under refuse; under refuse an operand of 64 or more raises UnsupportedFeature(pc,
shift_amount). Immediate amounts are sign-extended. -/
def Obligations.Shifts64 : Prop :=
  ∀ (s : State) (d : Reg) (a : Word), d ≠ 10 → readReg s .dst d = .ok a →
    (∀ imm : BitVec 32, let b := (BitVec.ofInt 64 imm.toInt).toNat
      (∀ n, ShiftBy s.cfg 64 b n →
        Completes (.lsh64Imm d imm) s (s.write d (BitVec.ofNat 64 (a.toNat * 2 ^ n))) ∧
        Completes (.rsh64Imm d imm) s (s.write d (BitVec.ofNat 64 (a.toNat / 2 ^ n))) ∧
        Completes (.arsh64Imm d imm) s (s.write d (BitVec.ofInt 64 (a.toInt / 2 ^ n)))) ∧
      (s.cfg.shiftPolicy = .refuse → 64 ≤ b → ∀ i ∈ [Instr.lsh64Imm d imm, .rsh64Imm d imm, .arsh64Imm d imm],
        Raises i s (.unsupportedFeature s.pc .shiftAmount))) ∧
    (∀ (r : Reg) (v : Word), readReg s .src r = .ok v → let b := v.toNat
      (∀ n, ShiftBy s.cfg 64 b n →
        Completes (.lsh64Reg d r) s (s.write d (BitVec.ofNat 64 (a.toNat * 2 ^ n))) ∧
        Completes (.rsh64Reg d r) s (s.write d (BitVec.ofNat 64 (a.toNat / 2 ^ n))) ∧
        Completes (.arsh64Reg d r) s (s.write d (BitVec.ofInt 64 (a.toInt / 2 ^ n)))) ∧
      (s.cfg.shiftPolicy = .refuse → 64 ≤ b → ∀ i ∈ [Instr.lsh64Reg d r, .rsh64Reg d r, .arsh64Reg d r],
        Raises i s (.unsupportedFeature s.pc .shiftAmount)))

/-- 32-bit shifts: amount masked to 5 bits, or refused at 32 or more under SHIFT_POLICY = refuse (40_alu R144, 40_alu
R145; derived). lsh32, rsh32 and arsh32 shift the low half of dst and write the result zero-extended, where n is
the low 5 bits of the amount operand under SHIFT_POLICY = mask, and the 32-bit operand itself, when below 32, under
refuse; under refuse an operand of 32 or more raises UnsupportedFeature(pc, shift_amount). -/
def Obligations.Shifts32 : Prop :=
  ∀ (s : State) (d : Reg) (a : Word), d ≠ 10 → readReg s .dst d = .ok a →
    (∀ imm : BitVec 32, let b := imm.toNat
      (∀ n, ShiftBy s.cfg 32 b n →
        Completes (.lsh32Imm d imm) s (s.write d (BitVec.ofNat 64 (a.toNat * 2 ^ n % 2 ^ 32))) ∧
        Completes (.rsh32Imm d imm) s (s.write d (BitVec.ofNat 64 (a.toNat % 2 ^ 32 / 2 ^ n))) ∧
        Completes (.arsh32Imm d imm) s (s.write d ((BitVec.ofInt 32 ((a.truncate 32).toInt / 2 ^ n)).zeroExtend 64))) ∧
      (s.cfg.shiftPolicy = .refuse → 32 ≤ b → ∀ i ∈ [Instr.lsh32Imm d imm, .rsh32Imm d imm, .arsh32Imm d imm],
        Raises i s (.unsupportedFeature s.pc .shiftAmount))) ∧
    (∀ (r : Reg) (v : Word), readReg s .src r = .ok v → let b := v.toNat % 2 ^ 32
      (∀ n, ShiftBy s.cfg 32 b n →
        Completes (.lsh32Reg d r) s (s.write d (BitVec.ofNat 64 (a.toNat * 2 ^ n % 2 ^ 32))) ∧
        Completes (.rsh32Reg d r) s (s.write d (BitVec.ofNat 64 (a.toNat % 2 ^ 32 / 2 ^ n))) ∧
        Completes (.arsh32Reg d r) s (s.write d ((BitVec.ofInt 32 ((a.truncate 32).toInt / 2 ^ n)).zeroExtend 64))) ∧
      (s.cfg.shiftPolicy = .refuse → 32 ≤ b → ∀ i ∈ [Instr.lsh32Reg d r, .rsh32Reg d r, .arsh32Reg d r],
        Raises i s (.unsupportedFeature s.pc .shiftAmount)))

/-- Negation is two's complement of the destination at both widths (40_alu R146, 40_alu R142; derived). neg64 writes
-dst modulo 2^64; neg32 writes the negation of the low half modulo 2^32, zero-extended; both go to the next slot. -/
def Obligations.Negation : Prop :=
  ∀ (s : State) (d : Reg) (a : Word), d ≠ 10 → readReg s .dst d = .ok a →
    Completes (.neg64 d) s (s.write d (BitVec.ofInt 64 (-a.toInt))) ∧
    Completes (.neg32 d) s (s.write d ((BitVec.ofInt 32 (-a.toInt)).zeroExtend 64))

/-- The four moves complete whatever the destination holds (40_alu R149; stated). mov64 writes the sign-extended
immediate or the register, mov32 the immediate as it stands or the low half of the register, zero-extended; no
value needs to be in the destination before, under any policy. -/
def Obligations.MovesDoNotReadTheDestination : Prop :=
  ∀ (s : State) (d : Reg), d ≠ 10 →
    (∀ imm : BitVec 32,
      Completes (.mov64Imm d imm) s (s.write d (BitVec.ofInt 64 imm.toInt)) ∧
      Completes (.mov32Imm d imm) s (s.write d (BitVec.ofNat 64 imm.toNat))) ∧
    (∀ (r : Reg) (b : Word), readReg s .src r = .ok b →
      Completes (.mov64Reg d r) s (s.write d b) ∧
      Completes (.mov32Reg d r) s (s.write d (BitVec.ofNat 64 (b.toNat % 2 ^ 32))))

/-- Byte swaps keep or reverse the low bytes by the host byte order, and zero the rest (41_byteswap R200; derived).
le16, le32, le64, be16, be32, be64 write a value below 2^NN whose byte k is byte k of dst when the target order is
BYTE_ORDER, and byte NN/8-1-k otherwise, and go to the next slot. -/
def Obligations.ByteSwaps : Prop :=
  ∀ (s : State) (d : Reg) (a : Word), d ≠ 10 → readReg s .dst d = .ok a →
    ∀ p ∈ [(Instr.le16 d, ByteOrder.le, 2), (.le32 d, .le, 4), (.le64 d, .le, 8),
        (.be16 d, .be, 2), (.be32 d, .be, 4), (.be64 d, .be, 8)],
      ∃ v : Word, Completes p.1 s (s.write d v) ∧ v.toNat < 2 ^ (8 * p.2.2) ∧
        ∀ k < p.2.2, v.extractLsb' (8 * k) 8 =
          a.extractLsb' (8 * (if s.cfg.byteOrder = p.2.1 then k else p.2.2 - 1 - k)) 8

/-- ja goes to the slot pc + 1 + off (42_jump R215, 42_jump R211; derived). ja changes nothing but pc, which becomes pc
+ 1 + off; when that is outside the program it raises PcOutOfRange(pc, target). -/
def Obligations.UnconditionalJump : Prop :=
  ∀ (s : State) (off : BitVec 16), GoesTo (.ja off) s s (s.pc + 1 + off.toInt)

/-- The 22 conditional jumps of class BPF_JMP (42_jump R212, 42_jump R211, 42_jump R214; derived). Each conditional
jump of class BPF_JMP compares R[dst] with the sign-extended immediate or with R[src] (equality, unsigned order,
signed order, or a common bit) and goes to pc + 1 + off when the condition holds, to pc + 1 when not, changing
nothing else; the new pc is checked either way. -/
def Obligations.ConditionalJumps64 : Prop :=
  ∀ (s : State) (d : Reg) (a : Word) (off : BitVec 16), readReg s .dst d = .ok a →
    (∀ imm : BitVec 32,
      JumpsIf (.jeq64Imm d imm off) s (a.toNat = (BitVec.ofInt 64 imm.toInt).toNat) off ∧
      JumpsIf (.jgt64Imm d imm off) s (a.toNat > (BitVec.ofInt 64 imm.toInt).toNat) off ∧
      JumpsIf (.jge64Imm d imm off) s (a.toNat ≥ (BitVec.ofInt 64 imm.toInt).toNat) off ∧
      JumpsIf (.jset64Imm d imm off) s (a.toNat &&& (BitVec.ofInt 64 imm.toInt).toNat ≠ 0) off ∧
      JumpsIf (.jne64Imm d imm off) s (a.toNat ≠ (BitVec.ofInt 64 imm.toInt).toNat) off ∧
      JumpsIf (.jsgt64Imm d imm off) s (a.toInt > imm.toInt) off ∧
      JumpsIf (.jsge64Imm d imm off) s (a.toInt ≥ imm.toInt) off ∧
      JumpsIf (.jlt64Imm d imm off) s (a.toNat < (BitVec.ofInt 64 imm.toInt).toNat) off ∧
      JumpsIf (.jle64Imm d imm off) s (a.toNat ≤ (BitVec.ofInt 64 imm.toInt).toNat) off ∧
      JumpsIf (.jslt64Imm d imm off) s (a.toInt < imm.toInt) off ∧
      JumpsIf (.jsle64Imm d imm off) s (a.toInt ≤ imm.toInt) off) ∧
    (∀ (r : Reg) (b : Word), readReg s .src r = .ok b →
      JumpsIf (.jeq64Reg d r off) s (a.toNat = b.toNat) off ∧
      JumpsIf (.jgt64Reg d r off) s (a.toNat > b.toNat) off ∧
      JumpsIf (.jge64Reg d r off) s (a.toNat ≥ b.toNat) off ∧
      JumpsIf (.jset64Reg d r off) s (a.toNat &&& b.toNat ≠ 0) off ∧
      JumpsIf (.jne64Reg d r off) s (a.toNat ≠ b.toNat) off ∧
      JumpsIf (.jsgt64Reg d r off) s (a.toInt > b.toInt) off ∧
      JumpsIf (.jsge64Reg d r off) s (a.toInt ≥ b.toInt) off ∧
      JumpsIf (.jlt64Reg d r off) s (a.toNat < b.toNat) off ∧
      JumpsIf (.jle64Reg d r off) s (a.toNat ≤ b.toNat) off ∧
      JumpsIf (.jslt64Reg d r off) s (a.toInt < b.toInt) off ∧
      JumpsIf (.jsle64Reg d r off) s (a.toInt ≤ b.toInt) off)

/-- The 22 conditional jumps of class BPF_JMP32 (42_jump R212, 42_jump R211, 42_jump R214; derived). Each conditional
jump of class BPF_JMP32 compares the low half of R[dst] with the 32 bits of the immediate or the low half of R[src]
and goes to pc + 1 + off when the condition holds, to pc + 1 when not, changing nothing else; the new pc is checked
either way. -/
def Obligations.ConditionalJumps32 : Prop :=
  ∀ (s : State) (d : Reg) (a : Word) (off : BitVec 16), readReg s .dst d = .ok a →
    (∀ imm : BitVec 32,
      JumpsIf (.jeq32Imm d imm off) s (a.toNat % 2 ^ 32 = imm.toNat) off ∧
      JumpsIf (.jgt32Imm d imm off) s (a.toNat % 2 ^ 32 > imm.toNat) off ∧
      JumpsIf (.jge32Imm d imm off) s (a.toNat % 2 ^ 32 ≥ imm.toNat) off ∧
      JumpsIf (.jset32Imm d imm off) s (a.toNat % 2 ^ 32 &&& imm.toNat ≠ 0) off ∧
      JumpsIf (.jne32Imm d imm off) s (a.toNat % 2 ^ 32 ≠ imm.toNat) off ∧
      JumpsIf (.jsgt32Imm d imm off) s ((a.truncate 32).toInt > imm.toInt) off ∧
      JumpsIf (.jsge32Imm d imm off) s ((a.truncate 32).toInt ≥ imm.toInt) off ∧
      JumpsIf (.jlt32Imm d imm off) s (a.toNat % 2 ^ 32 < imm.toNat) off ∧
      JumpsIf (.jle32Imm d imm off) s (a.toNat % 2 ^ 32 ≤ imm.toNat) off ∧
      JumpsIf (.jslt32Imm d imm off) s ((a.truncate 32).toInt < imm.toInt) off ∧
      JumpsIf (.jsle32Imm d imm off) s ((a.truncate 32).toInt ≤ imm.toInt) off) ∧
    (∀ (r : Reg) (b : Word), readReg s .src r = .ok b →
      JumpsIf (.jeq32Reg d r off) s (a.toNat % 2 ^ 32 = (b.toNat % 2 ^ 32)) off ∧
      JumpsIf (.jgt32Reg d r off) s (a.toNat % 2 ^ 32 > (b.toNat % 2 ^ 32)) off ∧
      JumpsIf (.jge32Reg d r off) s (a.toNat % 2 ^ 32 ≥ (b.toNat % 2 ^ 32)) off ∧
      JumpsIf (.jset32Reg d r off) s (a.toNat % 2 ^ 32 &&& (b.toNat % 2 ^ 32) ≠ 0) off ∧
      JumpsIf (.jne32Reg d r off) s (a.toNat % 2 ^ 32 ≠ (b.toNat % 2 ^ 32)) off ∧
      JumpsIf (.jsgt32Reg d r off) s ((a.truncate 32).toInt > (b.truncate 32).toInt) off ∧
      JumpsIf (.jsge32Reg d r off) s ((a.truncate 32).toInt ≥ (b.truncate 32).toInt) off ∧
      JumpsIf (.jlt32Reg d r off) s (a.toNat % 2 ^ 32 < (b.toNat % 2 ^ 32)) off ∧
      JumpsIf (.jle32Reg d r off) s (a.toNat % 2 ^ 32 ≤ (b.toNat % 2 ^ 32)) off ∧
      JumpsIf (.jslt32Reg d r off) s ((a.truncate 32).toInt < (b.truncate 32).toInt) off ∧
      JumpsIf (.jsle32Reg d r off) s ((a.truncate 32).toInt ≤ (b.truncate 32).toInt) off)

/-- A helper call: R0 and memory get what the platform's behaviour answers, R1 to R5 lose their values (43_call_exit
R262, 43_call_exit R261, 43_call_exit R263, 00_scope R13; derived). A helper call whose integer the table defines,
and whose argument registers R1 to Rk can be read, k its arity, goes to the next slot with the result of the
helper's answer in R0, no value in R1 to R5, R6 to R10 and the call stack as before, and memory changed by the
answer's writes to bytes of REGIONS and nowhere else; call_platform needs HAS_PLATFORM_HELPERS. The answer is the
computed one where the platform gives a computation, and the recorded one where it lists the step; else it is a
free value. Such data for a behaviour is the form the model chose (log 10, log 24). The example of R261: a helper
of two arguments that returns their sum and writes nothing. -/
def Obligations.HelperCalls : Prop :=
  (∀ (s : State) (imm : BitVec 32) (h : Helper) (args : List Word),
    readRegs s .arg (argRegs.take h.arity.val) = .ok args →
    ∀ p ∈ [(HelperSpace.agnostic, Instr.callHelper imm), (.platform, .callPlatform imm)],
      helperOf s.cfg p.1 imm.toInt = some h → (p.1 = .platform → s.cfg.hasPlatformHelpers = true) →
      ∃ (t : State) (answer : HelperAnswer), Completes p.2 s t ∧
        (∀ result effects, h.behaviour = .computes result effects →
          answer.result = evalHelperExpr s args result ∧ answer.cells = effects.flatMap (effectCells s args)) ∧
        (∀ given x, h.behaviour = .answers given → given.lookup s.draws = some x → answer = x) ∧
        t.reg 0 = .value answer.result ∧
        (∀ r ∈ ([1, 2, 3, 4, 5] : List Reg), t.reg r = .noValue) ∧
        (∀ r ∈ ([6, 7, 8, 9, 10] : List Reg), t.reg r = s.reg r) ∧
        t.callStack = s.callStack ∧ t.status = s.status ∧ t.text = s.text ∧ t.cfg = s.cfg ∧
        (∀ a : Nat, inSomeRegion s.cfg a = true → t.byteAt a =
          ((answer.cells.reverse.find? (fun c => c.1 == a)).map Prod.snd).getD (s.byteAt a)) ∧
        ∀ a : Nat, inSomeRegion s.cfg a = false → Memory.lookup t.mem a = Memory.lookup s.mem a) ∧
  (∀ (s : State) (imm : BitVec 32) (v1 v2 : Word), readReg s .arg 1 = .ok v1 → readReg s .arg 2 = .ok v2 →
    helperOf s.cfg .agnostic imm.toInt = some ⟨2, .computes (.op .add (.arg 0) (.arg 1)) []⟩ →
    ∃ t : State, Completes (.callHelper imm) s t ∧ t.reg 0 = .value (v1 + v2) ∧ t.mem = s.mem)

/-- A helper call the platform does not define raises its fault before any register is read (60_exceptions R357;
stated). call_helper with an integer not in HELPERS_AGNOSTIC raises UnknownHelper(pc, agnostic, id), and
call_platform, with HAS_PLATFORM_HELPERS true, with one not in HELPERS_PLATFORM raises UnknownHelper(pc, platform,
id), whatever the registers hold. -/
def Obligations.UnknownHelpers : Prop :=
  ∀ (s : State) (imm : BitVec 32),
    (helperArity s.cfg .agnostic imm.toInt = none →
      Raises (.callHelper imm) s (.unknownHelper s.pc .agnostic imm.toInt)) ∧
    (s.cfg.hasPlatformHelpers = true → helperArity s.cfg .platform imm.toInt = none →
      Raises (.callPlatform imm) s (.unknownHelper s.pc .platform imm.toInt))

/-- A platform helper call without the feature, and an argument that cannot be read (60_exceptions R356, 60_exceptions
R353, 43_call_exit R262; derived). call_platform on a platform without platform-specific helpers raises
UnsupportedFeature(pc, platform_helper), whatever its integer and the registers; a helper call of arity k raises
the fault of the first of R1 to Rk that cannot be read. -/
def Obligations.HelperCallTraps : Prop :=
  (∀ (s : State) (imm : BitVec 32), s.cfg.hasPlatformHelpers = false →
    Raises (.callPlatform imm) s (.unsupportedFeature s.pc .platformHelper)) ∧
  (∀ (s : State) (imm : BitVec 32) (k : Fin 6) (j : Nat) (hj : j < argRegs.length) (f : Fault), j < k.val →
    (∀ m, ∀ hm : m < j, ∃ v, readReg s .arg (argRegs[m]'(by omega)) = .ok v) →
    readReg s .arg argRegs[j] = .error f →
    (helperArity s.cfg .agnostic imm.toInt = some k → Raises (.callHelper imm) s f) ∧
    (helperArity s.cfg .platform imm.toInt = some k → s.cfg.hasPlatformHelpers = true →
      Raises (.callPlatform imm) s f))

/-- A BPF-local call saves the return slot and R6 to R10, hides R0 and R6 to R9, and lowers R10 (43_call_exit R264,
43_call_exit R265; derived). A BPF-local call below the depth limit, with the unused one of its two distance fields
zero, pushes a frame with pc + 1, R6 to R9 as they are and R10, leaves R0 and R6 to R9 without a value and R10
lowered by FRAME_STRIDE, keeps R1 to R5 and memory, and goes to pc + 1 + distance, the distance being in the field
LOCAL_CALL_FIELD names. The last clause is the choice of the model: the decoder refuses a word whose unused
distance field is not zero (R264), but callLocal carries both fields (log 16), and exec of one with both set raises
IllegalInstruction (log 12). -/
def Obligations.LocalCall : Prop :=
  ∀ (s : State) (off : BitVec 16) (imm : BitVec 32) (fp : Word) (distance : Int),
    readReg s .frame 10 = .ok fp →
    ((s.cfg.localCallField = .offset ∧ imm = 0 ∧ distance = off.toInt) ∨
     (s.cfg.localCallField = .imm ∧ off = 0 ∧ distance = imm.toInt) →
    (∀ m, s.cfg.maxCallDepth = some m → s.callStack.length < m) →
    ∃ t : State, GoesTo (.callLocal off imm) s t (s.pc + 1 + distance) ∧
      t.callStack = { retPc := s.pc + 1, s6 := s.reg 6, s7 := s.reg 7, s8 := s.reg 8, s9 := s.reg 9, s10 := fp }
        :: s.callStack ∧
      t.reg 10 = .value (fp - s.cfg.frameStride) ∧
      (∀ r ∈ ([0, 6, 7, 8, 9] : List Reg), t.reg r = .noValue) ∧
      (∀ r ∈ ([1, 2, 3, 4, 5] : List Reg), t.reg r = s.reg r) ∧
      t.mem = s.mem ∧ t.status = s.status ∧ t.text = s.text ∧ t.cfg = s.cfg) ∧
    ((s.cfg.localCallField = .offset ∧ imm ≠ 0) ∨ (s.cfg.localCallField = .imm ∧ off ≠ 0) →
      Raises (.callLocal off imm) s (.illegalInstruction s.pc (s.text[s.pc]?.getD 0)))

/-- A BPF-local call at MAX_CALL_DEPTH raises CallDepthExceeded, before its target is looked at; an unbounded machine
never does (60_exceptions R358; stated). With the call stack holding MAX_CALL_DEPTH frames, a BPF-local call (R10
holding a value, the unused distance field zero) raises CallDepthExceeded(pc), whether its target is in the program
or not; with MAX_CALL_DEPTH unbounded no instruction and no step ever leads to it; and no instruction but a BPF-
local call ever does; the reference value is 8. -/
def Obligations.CallDepthLimit : Prop :=
  (∀ (s : State) (off : BitVec 16) (imm : BitVec 32) (fp : Word) (m : Nat), s.reg 10 = .value fp →
    (s.cfg.localCallField = .offset ∧ imm = 0) ∨ (s.cfg.localCallField = .imm ∧ off = 0) →
    s.cfg.maxCallDepth = some m → s.callStack.length = m →
    Raises (.callLocal off imm) s (.callDepthExceeded s.pc)) ∧
  (∀ (i : Instr) (s t : State) (k : Nat), s.cfg.maxCallDepth = none → exec i s = .next t →
    s.status = .running → t.status ≠ .faulted (.callDepthExceeded k)) ∧
  (∀ (s t : State) (k : Nat), s.cfg.maxCallDepth = none → step s = .next t →
    t.status ≠ .faulted (.callDepthExceeded k)) ∧
  (∀ (i : Instr) (s t : State) (k : Nat), (∀ off imm, i ≠ .callLocal off imm) → exec i s = .next t →
    s.status = .running → t.status ≠ .faulted (.callDepthExceeded k)) ∧
  Config.reference.maxCallDepth = some 8

/-- exit ends the run with R0 at depth 0 and returns to the caller above it (43_call_exit R266; derived). At depth 0,
with R0 readable, exit sets the status to exited(R0) and changes nothing else, pc included. Above it, exit pops the
innermost frame, restores R6 to R10 from it, leaves R1 to R5 without a value, passes R0 through, changes no memory,
and goes to the saved slot, or raises PcOutOfRange when that is outside the program. -/
def Obligations.ExitEndsOrReturns : Prop :=
  (∀ (s : State) (v : Word), s.callStack = [] → readReg s .r0 0 = .ok v →
    exec .exit s = .next { s with status := .exited v }) ∧
  (∀ (s : State) (fr : Frame) (rest : List Frame), s.callStack = fr :: rest →
    ∃ t : State, GoesTo .exit s t fr.retPc ∧ t.callStack = rest ∧
      t.reg 6 = fr.s6 ∧ t.reg 7 = fr.s7 ∧ t.reg 8 = fr.s8 ∧ t.reg 9 = fr.s9 ∧ t.reg 10 = .value fr.s10 ∧
      (∀ r ∈ ([1, 2, 3, 4, 5] : List Reg), t.reg r = .noValue) ∧ t.reg 0 = s.reg 0 ∧
      t.mem = s.mem ∧ t.status = s.status ∧ t.text = s.text ∧ t.cfg = s.cfg)

/-- The return of a BPF-local call gives the caller R6 to R10 back whatever the callee did (43_call_exit R265,
43_call_exit R266; derived). If a BPF-local call completes from a state whose R10 holds a value, and later the
machine, with any registers and memory but the call stack as the call left it, completes an exit, then R6 to R10,
the call stack and the slot after the call are the caller's again. -/
def Obligations.CallThenReturnRestoresTheCaller : Prop :=
  ∀ (s t t' u : State) (off : BitVec 16) (imm : BitVec 32) (fp : Word),
    s.status = .running → s.reg 10 = .value fp →
    exec (.callLocal off imm) s = .next t → t.status = .running →
    t'.callStack = t.callStack → t'.status = .running →
    exec .exit t' = .next u → u.status = .running →
    (∀ r ∈ ([6, 7, 8, 9, 10] : List Reg), u.reg r = s.reg r) ∧ u.callStack = s.callStack ∧ u.pc = s.pc + 1

/-- A load zero-extends the bytes at the effective address, each as it is when its own access comes (44_load_store
R270, 44_load_store R271, 20_memory R60, 20_memory R64, 20_memory R71, 20_memory R74; derived). ldxw, ldxh, ldxb,
ldxdw: when the base can be read and the access of n bytes at base + sext(off) modulo 2^64 is admitted for reading,
dst receives a value below 2^(8n) whose byte k is the byte of memory at the place rule R60 gives it, and the
machine goes to the next slot; dst need hold no value before and may be the base. From a region that is not shared,
nothing else changes. From a shared region the n bytes are accessed one by one, in any order, with moves of the
environment between them (R71, R74): each byte is as the moves before its own access left it, and memory is as all
of them leave it. Which moves there are and when is data of the state (log 8, the choice of the model). -/
def Obligations.Loads : Prop :=
  ∀ (s : State) (d r : Reg) (off : BitVec 16) (base : Word), d ≠ 10 → readReg s .src r = .ok base →
    let addr := base + off.signExtend 64
    ∀ p ∈ [(Instr.ldxw d r off, 4), (.ldxh d r off, 2), (.ldxb d r off, 1), (.ldxdw d r off, 8)],
      checkAccess s .read addr p.2 = .ok () →
      let moves := if sharedAccess s addr p.2 = true then s.during else []
      ∃ (u : State) (v : Word), Completes p.1 s (u.write d v) ∧ v.toNat < 2 ^ (8 * p.2) ∧
        (∀ k < p.2, let place := byteIndex s.cfg.byteOrder p.2 k
          v.extractLsb' (8 * k) 8 =
            (envLast s.cfg (moves.take (accessTime s moves.length place)) (addr.toNat + place)).getD
              (s.byteAt (addr.toNat + place))) ∧
        u = { s with mem := u.mem } ∧ (sharedAccess s addr p.2 = false → u = s) ∧
        ∀ a : Nat, u.byteAt a = (envLast s.cfg moves a).getD (s.byteAt a)

/-- A store writes the low bytes of the value in the byte order of the machine, each when its own access comes
(44_load_store R270, 44_load_store R271, 20_memory R60, 20_memory R63, 20_memory R71, 20_memory R74; derived). The
eight stores: when the base (and for stx the source register) can be read and the access of n bytes at base +
sext(off) modulo 2^64 is admitted for writing, the n bytes there become the low bytes of the sign-extended
immediate or of R[src], laid out as rule R60 says; no other byte, no register and nothing else changes, and the
machine goes to the next slot. In a shared region the n bytes are accessed one by one, in any order, with moves of
the environment between them (R71, R74): a byte holds what the last move after its own access wrote there, or the
byte of the store where there is none, and the bytes outside are as the moves leave them. Which moves there are and
when is data of the state (log 8, the choice of the model). -/
def Obligations.Stores : Prop :=
  ∀ (s : State) (d : Reg) (off : BitVec 16) (base : Word), readReg s .dst d = .ok base →
    let addr := base + off.signExtend 64
    let stored := fun (i : Instr) (n : Nat) (v : Word) =>
      checkAccess s .write addr n = .ok () →
      let moves := if sharedAccess s addr n = true then s.during else []
      ∃ t : State, Completes i s t ∧ t.regs = s.regs ∧ t.callStack = s.callStack ∧ t.status = s.status ∧
        t.text = s.text ∧ t.cfg = s.cfg ∧
        (∀ k < n, let place := byteIndex s.cfg.byteOrder n k
          t.byteAt (addr.toNat + place) =
            (envLast s.cfg (moves.drop (accessTime s moves.length place)) (addr.toNat + place)).getD
              (v.extractLsb' (8 * k) 8)) ∧
        ∀ a : Nat, Outside a addr.toNat n → t.byteAt a = (envLast s.cfg moves a).getD (s.byteAt a)
    (∀ imm : BitVec 32, let v := BitVec.ofInt 64 imm.toInt
      stored (.stw d off imm) 4 v ∧ stored (.sth d off imm) 2 v ∧ stored (.stb d off imm) 1 v ∧
      stored (.stdw d off imm) 8 v) ∧
    (∀ (r : Reg) (v : Word), readReg s .src r = .ok v →
      stored (.stxw d r off) 4 v ∧ stored (.stxh d r off) 2 v ∧ stored (.stxb d r off) 1 v ∧
      stored (.stxdw d r off) 8 v)

/-- A value stored at one width and loaded at another is seen as its bytes lie (20_memory R81, 20_memory R60; derived).
Memory is an array of bytes: after a store of n bytes of v at a, each byte of the range holds the byte of v that
rule R60 puts there, and a load of m bytes at a + j, for every j + m <= n, returns the m bytes of v that lie there:
from bit 8j on in LE, from bit 8(n - j - m) on in BE. The example of the rule, in both byte orders: after storing
the 32-bit value 0x11223344 at a, a 1-byte load at a returns 0x44 and a 2-byte load at a+2 returns 0x1122 in LE,
0x11 and 0x3344 in BE. -/
def Obligations.MixedWidthAccesses : Prop :=
  (∀ (s : State) (a v : Word) (n k : Nat), n ≤ 8 → k < n → a.toNat + n ≤ 2 ^ 64 →
    (s.store a n v).byteAt (a.toNat + byteIndex s.cfg.byteOrder n k) = v.extractLsb' (8 * k) 8) ∧
  (∀ (s : State) (a v : Word) (n m j : Nat), n ≤ 8 → j + m ≤ n → a.toNat + n ≤ 2 ^ 64 →
    (s.cfg.byteOrder = .le → (s.store a n v).load (a + BitVec.ofNat 64 j) m =
      BitVec.ofNat 64 (v.toNat / 2 ^ (8 * j) % 2 ^ (8 * m))) ∧
    (s.cfg.byteOrder = .be → (s.store a n v).load (a + BitVec.ofNat 64 j) m =
      BitVec.ofNat 64 (v.toNat / 2 ^ (8 * (n - j - m)) % 2 ^ (8 * m)))) ∧
  (∀ (s : State) (a : Word), a.toNat + 4 ≤ 2 ^ 64 →
    (s.cfg.byteOrder = .le → (s.store a 4 0x11223344).load a 1 = 0x44 ∧
      (s.store a 4 0x11223344).load (a + 2) 2 = 0x1122) ∧
    (s.cfg.byteOrder = .be → (s.store a 4 0x11223344).load a 1 = 0x11 ∧
      (s.store a 4 0x11223344).load (a + 2) 2 = 0x3344))

/-- An access is admitted exactly when one region contains it and has the right; otherwise unmapped or permission
(20_memory R66, 20_memory R62, 20_memory R63, 60_exceptions R354; derived). With pairwise disjoint regions within
2^64, for a range of n > 0 bytes that does not pass 2^64 and is aligned where it must be: the access is admitted
iff one region contains the whole range and is readable (writable, or for an atomic both); it is unmapped iff no
single region contains the range, also when two adjacent regions would cover it between them; else it is a
permission fault. -/
def Obligations.AdmissionByRegions : Prop :=
  ∀ (s : State) (kind : AccessKind) (addr : Word) (n : Nat), s.cfg.regionsWf = true → 0 < n →
    addr.toNat + n ≤ 2 ^ 64 → (mustAlign s.cfg kind = true → addr.toNat % n = 0) →
    (checkAccess s kind addr n = .ok () ↔ Admitted s.cfg kind addr.toNat n) ∧
    (checkAccess s kind addr n = .error (.memoryFault s.pc addr n kind .unmapped) ↔ ¬ Mapped s.cfg addr.toNat n) ∧
    (checkAccess s kind addr n = .error (.memoryFault s.pc addr n kind .permission) ↔
      Mapped s.cfg addr.toNat n ∧ ¬ Admitted s.cfg kind addr.toNat n)

/-- Atomics must be aligned, plain accesses only under the strict policy; a range past 2^64 is a wrap (20_memory R68,
20_memory R82, 60_exceptions R354; derived). An atomic access whose address is not a multiple of its width is
misaligned; a plain access is so only under ALIGN_POLICY = strict, where misaligned comes before every other reason
by the choice of the model (log 13; R354 orders the reasons for atomics only), and under the reference policy a
misaligned plain access passes to the other checks; then a range that passes 2^64 is a wrap fault. -/
def Obligations.AlignmentAndWrapChecks : Prop :=
  ∀ (s : State) (addr : Word) (n : Nat),
    (addr.toNat % n ≠ 0 →
      checkAccess s .atomic addr n = .error (.memoryFault s.pc addr n .atomic .misaligned)) ∧
    (∀ kind, addr.toNat % n ≠ 0 → s.cfg.alignPolicy = .strict →
      checkAccess s kind addr n = .error (.memoryFault s.pc addr n kind .misaligned)) ∧
    (∀ kind, addr.toNat % n = 0 ∨ (s.cfg.alignPolicy = .reference ∧ kind ≠ .atomic) → 2 ^ 64 < addr.toNat + n →
      checkAccess s kind addr n = .error (.memoryFault s.pc addr n kind .wrap)) ∧
    (∀ kind, s.cfg.alignPolicy = .reference → kind ≠ .atomic → mustAlign s.cfg kind = false)

/-- An access that is not admitted ends the load, store or atomic with its MemoryFault and no other effect
(44_load_store R271, 45_atomic R293, 60_exceptions R354; derived). For every load, store and atomic instruction
whose registers can be read: when the access at the effective address is not admitted, for the kind of access the
instruction makes (both rights for every atomic, a compare-and-exchange included), the instruction raises that
MemoryFault, and no register or byte changes. -/
def Obligations.AccessFaultsEndTheInstruction : Prop :=
  (∀ (s : State) (d r : Reg) (off : BitVec 16) (base : Word) (f : Fault), d ≠ 10 → readReg s .src r = .ok base →
    ∀ p ∈ [(Instr.ldxw d r off, 4), (.ldxh d r off, 2), (.ldxb d r off, 1), (.ldxdw d r off, 8)],
      checkAccess s .read (base + off.signExtend 64) p.2 = .error f → Raises p.1 s f) ∧
  (∀ (s : State) (d : Reg) (off : BitVec 16) (imm : BitVec 32) (base : Word) (f : Fault),
    readReg s .dst d = .ok base →
    ∀ p ∈ [(Instr.stw d off imm, 4), (.sth d off imm, 2), (.stb d off imm, 1), (.stdw d off imm, 8)],
      checkAccess s .write (base + off.signExtend 64) p.2 = .error f → Raises p.1 s f) ∧
  (∀ (s : State) (d r : Reg) (off : BitVec 16) (base v : Word) (f : Fault), readReg s .dst d = .ok base →
    readReg s .src r = .ok v →
    ∀ p ∈ [(Instr.stxw d r off, 4), (.stxh d r off, 2), (.stxb d r off, 1), (.stxdw d r off, 8)],
      checkAccess s .write (base + off.signExtend 64) p.2 = .error f → Raises p.1 s f) ∧
  (∀ (s : State) (d r : Reg) (off : BitVec 16) (base v : Word) (f : Fault), readReg s .dst d = .ok base →
    readReg s .src r = .ok v →
    ∀ p ∈ [(Instr.atomicAdd32 d r off, 4), (.atomicOr32 d r off, 4), (.atomicAnd32 d r off, 4),
        (.atomicXor32 d r off, 4), (.atomicAdd64 d r off, 8), (.atomicOr64 d r off, 8),
        (.atomicAnd64 d r off, 8), (.atomicXor64 d r off, 8)],
      checkAccess s .atomic (base + off.signExtend 64) p.2 = .error f → Raises p.1 s f) ∧
  (∀ (s : State) (d r : Reg) (off : BitVec 16) (base v : Word) (f : Fault), r ≠ 10 → readReg s .dst d = .ok base →
    readReg s .src r = .ok v →
    ∀ p ∈ [(Instr.atomicFetchAdd32 d r off, 4), (.atomicFetchOr32 d r off, 4), (.atomicFetchAnd32 d r off, 4),
        (.atomicFetchXor32 d r off, 4), (.atomicXchg32 d r off, 4), (.atomicFetchAdd64 d r off, 8),
        (.atomicFetchOr64 d r off, 8), (.atomicFetchAnd64 d r off, 8), (.atomicFetchXor64 d r off, 8),
        (.atomicXchg64 d r off, 8)],
      checkAccess s .atomic (base + off.signExtend 64) p.2 = .error f → Raises p.1 s f) ∧
  (∀ (s : State) (d r : Reg) (off : BitVec 16) (base v c : Word) (f : Fault), readReg s .dst d = .ok base →
    readReg s .src r = .ok v → readReg s .r0 0 = .ok c →
    ∀ p ∈ [(Instr.atomicCmpxchg32 d r off, 4), (.atomicCmpxchg64 d r off, 8)],
      checkAccess s .atomic (base + off.signExtend 64) p.2 = .error f → Raises p.1 s f)

/-- Atomic add, or, and, xor without fetch update memory and no register (45_atomic R291, 45_atomic R293, 20_memory
R82; derived). atomic_add, or, and, xor at 32 and 64 bits: when both registers can be read and the access is
admitted for reading and writing and aligned, the n bytes at base + sext(off) become the operation of the old value
and of the low bytes of R[src], in one step; no register changes, and the machine goes to the next slot. -/
def Obligations.SimpleAtomics : Prop :=
  ∀ (s : State) (d r : Reg) (off : BitVec 16) (base v : Word), readReg s .dst d = .ok base →
    readReg s .src r = .ok v → let addr := base + off.signExtend 64
    (checkAccess s .atomic addr 4 = .ok () → let old := s.load addr 4
      Completes (.atomicAdd32 d r off) s (s.store addr 4 (BitVec.ofNat 64 ((old.toNat + v.toNat) % 2 ^ 32))) ∧
      Completes (.atomicOr32 d r off) s (s.store addr 4 (BitVec.ofNat 64 ((old.toNat ||| v.toNat) % 2 ^ 32))) ∧
      Completes (.atomicAnd32 d r off) s (s.store addr 4 (BitVec.ofNat 64 ((old.toNat &&& v.toNat) % 2 ^ 32))) ∧
      Completes (.atomicXor32 d r off) s (s.store addr 4 (BitVec.ofNat 64 ((old.toNat ^^^ v.toNat) % 2 ^ 32)))) ∧
    (checkAccess s .atomic addr 8 = .ok () → let old := s.load addr 8
      Completes (.atomicAdd64 d r off) s (s.store addr 8 (BitVec.ofNat 64 ((old.toNat + v.toNat) % 2 ^ 64))) ∧
      Completes (.atomicOr64 d r off) s (s.store addr 8 (BitVec.ofNat 64 ((old.toNat ||| v.toNat) % 2 ^ 64))) ∧
      Completes (.atomicAnd64 d r off) s (s.store addr 8 (BitVec.ofNat 64 ((old.toNat &&& v.toNat) % 2 ^ 64))) ∧
      Completes (.atomicXor64 d r off) s (s.store addr 8 (BitVec.ofNat 64 ((old.toNat ^^^ v.toNat) % 2 ^ 64))))

/-- Atomic fetch operations and exchange also load the old value, zero-extended, into src (45_atomic R291, 45_atomic
R292, 45_atomic R293; derived). atomic_fetch_add, or, and, xor and atomic_xchg at 32 and 64 bits: as the simple
operations (the exchange stores the low bytes of R[src]), and R[src] receives the value before the update, zero-
extended; the address comes from the old R[dst] also when src and dst are the same register. A src_reg of 10 is
illegal and excluded here. -/
def Obligations.FetchingAtomics : Prop :=
  ∀ (s : State) (d r : Reg) (off : BitVec 16) (base v : Word), r ≠ 10 → readReg s .dst d = .ok base →
    readReg s .src r = .ok v → let addr := base + off.signExtend 64
    (checkAccess s .atomic addr 4 = .ok () → let old := s.load addr 4
      Completes (.atomicFetchAdd32 d r off) s ((s.store addr 4 (BitVec.ofNat 64 ((old.toNat + v.toNat) % 2 ^ 32))).write r old) ∧
      Completes (.atomicFetchOr32 d r off) s ((s.store addr 4 (BitVec.ofNat 64 ((old.toNat ||| v.toNat) % 2 ^ 32))).write r old) ∧
      Completes (.atomicFetchAnd32 d r off) s ((s.store addr 4 (BitVec.ofNat 64 ((old.toNat &&& v.toNat) % 2 ^ 32))).write r old) ∧
      Completes (.atomicFetchXor32 d r off) s ((s.store addr 4 (BitVec.ofNat 64 ((old.toNat ^^^ v.toNat) % 2 ^ 32))).write r old) ∧
      Completes (.atomicXchg32 d r off) s ((s.store addr 4 (BitVec.ofNat 64 (v.toNat % 2 ^ 32))).write r old)) ∧
    (checkAccess s .atomic addr 8 = .ok () → let old := s.load addr 8
      Completes (.atomicFetchAdd64 d r off) s ((s.store addr 8 (BitVec.ofNat 64 ((old.toNat + v.toNat) % 2 ^ 64))).write r old) ∧
      Completes (.atomicFetchOr64 d r off) s ((s.store addr 8 (BitVec.ofNat 64 ((old.toNat ||| v.toNat) % 2 ^ 64))).write r old) ∧
      Completes (.atomicFetchAnd64 d r off) s ((s.store addr 8 (BitVec.ofNat 64 ((old.toNat &&& v.toNat) % 2 ^ 64))).write r old) ∧
      Completes (.atomicFetchXor64 d r off) s ((s.store addr 8 (BitVec.ofNat 64 ((old.toNat ^^^ v.toNat) % 2 ^ 64))).write r old) ∧
      Completes (.atomicXchg64 d r off) s ((s.store addr 8 (BitVec.ofNat 64 (v.toNat % 2 ^ 64))).write r old))

/-- Compare-and-exchange stores src on a match with R0, and loads the old value into R0 in either case (45_atomic R292,
45_atomic R303, 45_atomic R313; derived). atomic_cmpxchg32 and atomic_cmpxchg64: when dst, src and R0 can be read
and the access is admitted for reading and writing and aligned, memory is replaced by the low bytes of R[src]
exactly when the old value equals R0 (its low half at 32 bits); in either case R0 receives the old value, zero-
extended, and the machine goes to the next slot. -/
def Obligations.CompareAndExchange : Prop :=
  ∀ (s : State) (d r : Reg) (off : BitVec 16) (base v c : Word), readReg s .dst d = .ok base →
    readReg s .src r = .ok v → readReg s .r0 0 = .ok c → let addr := base + off.signExtend 64
    (checkAccess s .atomic addr 4 = .ok () → let old := s.load addr 4
      (old.toNat = c.toNat % 2 ^ 32 →
        Completes (.atomicCmpxchg32 d r off) s ((s.store addr 4 v).write 0 old)) ∧
      (old.toNat ≠ c.toNat % 2 ^ 32 → Completes (.atomicCmpxchg32 d r off) s (s.write 0 old))) ∧
    (checkAccess s .atomic addr 8 = .ok () → let old := s.load addr 8
      (old.toNat = c.toNat →
        Completes (.atomicCmpxchg64 d r off) s ((s.store addr 8 v).write 0 old)) ∧
      (old.toNat ≠ c.toNat → Completes (.atomicCmpxchg64 d r off) s (s.write 0 old)))

/-- lddw loads next_imm in the upper half and imm in the lower half, and skips both slots (46_imm64 R321, 30_encoding
R97; derived). lddw writes (next_imm << 32) | imm, both halves unsigned, whatever dst held before, and goes to pc +
2. -/
def Obligations.LoadOfA64BitImmediate : Prop :=
  ∀ (s : State) (d : Reg) (imm next : BitVec 32), d ≠ 10 →
    CompletesWide (.lddw d imm next) s (s.write d (BitVec.ofNat 64 (next.toNat * 2 ^ 32 + imm.toNat)))

/-- The six platform address loads give the address the platform defines, or raise UnsupportedFeature (46_imm64 R320,
46_imm64 R323, 46_imm64 R325, 46_imm64 R327, 60_exceptions R356; derived). ld_map_fd, ld_map_fd_value, ld_var_addr,
ld_code_addr, ld_map_idx, ld_map_idx_value: with the feature switch on and the platform function defined at the
argument (for the value forms, mva defined at the map, next_imm added as an unsigned number modulo 2^64; for
ld_code_addr, the slot pc + 1 + sext(imm) in the program and not the second slot of a wide instruction), dst
receives the address and the machine goes to pc + 2; otherwise UnsupportedFeature(pc, the subtype). R325 does not
say how second slots are found: counting from slot 0, two slots for each word with opcode 0x18, is a deduction of
the model (log 14). -/
def Obligations.PlatformAddressLoads : Prop :=
  ∀ (s : State) (d : Reg) (imm next : BitVec 32), d ≠ 10 →
    let given := fun (i : Instr) (what : Feature) (defined : Word → Prop) =>
      (∀ v, defined v → CompletesWide i s (s.write d v)) ∧
      ((∀ v, ¬ defined v) → Raises i s (.unsupportedFeature s.pc what))
    let target := s.pc + 1 + imm.toInt
    given (.ldMapFd d imm) .ldMapFd (fun v =>
      s.cfg.hasMaps = true ∧ s.cfg.hasMapFd = true ∧ s.cfg.mapByFd.lookup imm = some v) ∧
    given (.ldMapFdValue d imm next) .ldMapFdValue (fun v =>
      s.cfg.hasMaps = true ∧ s.cfg.hasMapFd = true ∧ ∃ m b, s.cfg.mapByFd.lookup imm = some m ∧
        s.cfg.mva.lookup m = some b ∧ v = BitVec.ofNat 64 (b.toNat + next.toNat)) ∧
    given (.ldVarAddr d imm) .ldVarAddr (fun v =>
      s.cfg.hasVariables = true ∧ s.cfg.variableAddr.lookup imm = some v) ∧
    given (.ldCodeAddr d imm) .ldCodeAddr (fun v =>
      InProgram s target ∧ isSecondSlot s.text target.toNat = false ∧ s.cfg.codeAddr.lookup target.toNat = some v) ∧
    given (.ldMapIdx d imm) .ldMapIdx (fun v =>
      s.cfg.hasMaps = true ∧ s.cfg.mapByIdx.lookup imm = some v) ∧
    given (.ldMapIdxValue d imm next) .ldMapIdxValue (fun v =>
      s.cfg.hasMaps = true ∧ ∃ m b, s.cfg.mapByIdx.lookup imm = some m ∧
        s.cfg.mva.lookup m = some b ∧ v = BitVec.ofNat 64 (b.toNat + next.toNat))

/-- On a well-formed platform a map value address points into a shared region, and a variable address is the base of a
region (46_imm64 R323, 46_imm64 R324, 46_imm64 R327, 46_imm64 R328, 46_imm64 R329; derived). With the parameters as
Config.wf asks: ld_var_addr gives the base address of a region of REGIONS; ld_map_fd_value and ld_map_idx_value
give an address next_imm bytes into a region flagged shared, from its base, which lies in that region, without
passing 2^64, whenever next_imm is below its size. That the address of the first value of a map is the base of its
region is a deduction of the model (log 25). -/
def Obligations.PlatformAddressesPointIntoRegions : Prop :=
  ∀ (s : State) (d : Reg) (imm next : BitVec 32), d ≠ 10 → s.cfg.wf = true →
    (∀ v, s.cfg.hasVariables = true → s.cfg.variableAddr.lookup imm = some v →
      CompletesWide (.ldVarAddr d imm) s (s.write d v) ∧ ∃ g ∈ s.cfg.allRegions, g.base = v.toNat) ∧
    (∀ m b, s.cfg.hasMaps = true → s.cfg.mva.lookup m = some b →
      let v := BitVec.ofNat 64 (b.toNat + next.toNat)
      (s.cfg.hasMapFd = true → s.cfg.mapByFd.lookup imm = some m →
        CompletesWide (.ldMapFdValue d imm next) s (s.write d v)) ∧
      (s.cfg.mapByIdx.lookup imm = some m → CompletesWide (.ldMapIdxValue d imm next) s (s.write d v)) ∧
      ∃ g ∈ s.cfg.allRegions, g.shared = true ∧ g.base = b.toNat ∧
        (next.toNat < g.size → v.toNat = g.base + next.toNat ∧ g.containsRange v.toNat 1 = true))

end
end

