-- ==== Sys2Proof/Laws/Stages.lean ====
section
/-! SUPPORT. Sys2Proof/Laws/Stages.lean: taking apart computations made of stages, each of which may stop. -/

namespace Sys2Proof

@[simp] theorem ok_bind {ε α β : Type} (a : α) (f : α → Except ε β) : (Except.ok a >>= f) = f a := rfl
@[simp] theorem error_bind {ε α β : Type} (e : ε) (f : α → Except ε β) : (Except.error e >>= f) = .error e := rfl

/-- A stage that is followed by another succeeds only if both do. -/
theorem bind_eq_ok {ε α β : Type} {x : Except ε α} {f : α → Except ε β} {b : β} :
    (x >>= f) = .ok b ↔ ∃ a, x = .ok a ∧ f a = .ok b := by
  cases x <;> simp

end Sys2Proof
end

