-- ==== Sys2Proof/Laws/Decode.lean ====
section
/-! SUPPORT. Sys2Proof/Laws/Decode.lean: the parts of encoding and decoding undo each other: fields and word, bytes
and word, register number and field. -/

namespace Sys2Proof

/-- Taking the fields of a word that was put together. -/
@[simp] theorem ofWord_slotWord (op : BitVec 8) (d r : BitVec 4) (off : BitVec 16) (imm : BitVec 32) :
    Fields.ofWord (slotWord op d r off imm) = ⟨op, d, r, off, imm⟩ := by
  simp only [Fields.ofWord, slotWord, Fields.mk.injEq]
  refine ⟨?_, ?_, ?_, ?_, ?_⟩ <;>
    (ext k hk; simp only [BitVec.getElem_extractLsb', BitVec.getLsbD_append])
  · simp [hk]
  · simp [hk, show ¬ 8 + k < 8 by omega]
  · simp [hk, show ¬ 12 + k < 8 by omega, show ¬ 12 + k - 8 < 4 by omega, show 12 + k - 8 - 4 = k by omega]
  · simp [hk, show ¬ 16 + k < 8 by omega, show ¬ 16 + k - 8 < 4 by omega, show ¬ 16 + k - 8 - 4 < 4 by omega,
      show 16 + k - 8 - 4 - 4 = k by omega]
  · simp [hk, show ¬ 32 + k < 8 by omega, show ¬ 32 + k - 8 < 4 by omega, show ¬ 32 + k - 8 - 4 < 4 by omega,
      show ¬ 32 + k - 8 - 4 - 4 < 16 by omega, show 32 + k - 8 - 4 - 4 - 16 = k by omega]

/-- Putting the fields of a word together. -/
@[simp] theorem slotWord_ofWord (w : Word) :
    slotWord (Fields.ofWord w).opcode (Fields.ofWord w).dst (Fields.ofWord w).src (Fields.ofWord w).off
      (Fields.ofWord w).imm = w := by
  simp only [Fields.ofWord, slotWord]
  ext k hk
  simp only [BitVec.getElem_append, BitVec.getElem_extractLsb']
  split
  · simp [← BitVec.getLsbD_eq_getElem]
  · split
    · rw [show 8 + (k - 8) = k by omega]; simp [← BitVec.getLsbD_eq_getElem]
    · split
      · rw [show 12 + (k - 8 - 4) = k by omega]; simp [← BitVec.getLsbD_eq_getElem]
      · split
        · rw [show 16 + (k - 8 - 4 - 4) = k by omega]; simp [← BitVec.getLsbD_eq_getElem]
        · rw [show 32 + (k - 8 - 4 - 4 - 16) = k by omega]; simp [← BitVec.getLsbD_eq_getElem]

/-- Equal fields, equal words. -/
theorem ofWord_injective {w v : Word} (h : Fields.ofWord w = Fields.ofWord v) : w = v := by
  rw [← slotWord_ofWord w, ← slotWord_ofWord v, h]

/-- The bytes of a slot give its word back, in either byte order. -/
theorem takeSlot_slotBytes (bo : ByteOrder) (w : Word) (rest : List Byte) :
    takeSlot bo (slotBytes bo w ++ rest) = some (w, rest) := by
  cases bo <;> simp only [slotBytes, List.cons_append, List.nil_append, takeSlot, wordOfBytes] <;>
    refine congrArg some (Prod.ext ?_ rfl) <;> refine ofWord_injective ?_ <;>
    rw [ofWord_slotWord] <;> simp only [Fields.ofWord, Fields.mk.injEq] <;>
    refine ⟨trivial, ?_, ?_, ?_, ?_⟩ <;> ext k hk <;>
    simp only [BitVec.getElem_extractLsb', BitVec.getLsbD_append, BitVec.getElem_append] <;>
    (repeat' split) <;> (try simp [BitVec.getLsbD_extractLsb']) <;> grind

/-- A register's field reads as the register (rule R120). -/
@[simp] theorem regNumber_regField (r : Reg) : regNumber (regField r) = .ok r := by
  revert r; decide

/-- A field that reads as a register is the register's field. -/
theorem regField_of_regNumber {x : BitVec 4} {r : Reg} (h : regNumber x = .ok r) : regField r = x := by
  revert x r; decide

theorem writableNumber_regField {r : Reg} (h : writable r = true) : writableNumber (regField r) = .ok r := by
  revert r; decide

theorem regField_of_writableNumber {x : BitVec 4} {r : Reg} (h : writableNumber x = .ok r) :
    regField r = x ∧ writable r = true := by
  revert x r; decide

@[simp] theorem secondSlotImm_secondSlot (next : BitVec 32) : secondSlotImm (some (secondSlot next)) = .ok next := by
  have h1 : (secondSlot next).extractLsb' 0 32 = 0 := by
    simp only [secondSlot, slotWord]
    ext k hk
    simp only [BitVec.getElem_extractLsb', BitVec.getLsbD_append]
    (repeat' split) <;> grind
  have h2 : (secondSlot next).extractLsb' 32 32 = next := congrArg Fields.imm (ofWord_slotWord 0 0 0 0 next)
  simp only [secondSlotImm, h1, h2]; rfl

/-- The word of a legacy instruction: its opcode and the bits the instruction carries (rule R109). -/
theorem legacyWord_fields (rest : BitVec 56) (op : BitVec 8) :
    (Fields.ofWord (rest ++ op)).opcode = op ∧ (rest ++ op : Word).extractLsb' 8 56 = rest := by
  have bit (i : Nat) : (rest ++ op : Word).getLsbD i = if i < 8 then op.getLsbD i else rest.getLsbD (i - 8) :=
    BitVec.getLsbD_append
  constructor
  · simp only [Fields.ofWord]
    ext k hk
    simp only [BitVec.getElem_extractLsb', bit, Nat.zero_add, hk, if_true, BitVec.getLsbD_eq_getElem]
  · ext k hk
    simp only [BitVec.getElem_extractLsb', bit, show ¬ 8 + k < 8 by omega, if_false, Nat.add_sub_cancel_left, hk,
      BitVec.getLsbD_eq_getElem]

/-! ## What the decoder accepts for each format -/

theorem require_eq_ok {ok : Bool} {e : DecodeError} {u : Unit} : require ok e = .ok u ↔ ok = true := by
  cases ok <;> simp [require]

/-- The fields of a word, put together after some of them have been rewritten. -/
theorem slotWord_of_fields {w : Word} {d r : BitVec 4} {off : BitVec 16} {imm : BitVec 32}
    (h1 : (Fields.ofWord w).dst = d) (h2 : (Fields.ofWord w).src = r) (h3 : (Fields.ofWord w).off = off)
    (h4 : (Fields.ofWord w).imm = imm) : w = slotWord (Fields.ofWord w).opcode d r off imm := by
  rw [← h1, ← h2, ← h3, ← h4, slotWord_ofWord]

section
variable {lcf : LocalCallField} {w : Word} {w2 : Option Word} {i : Instr}

theorem decodeForm_aluK {mk : Reg → BitVec 32 → Instr} (h : decodeForm lcf w w2 (.aluK mk) = .ok i) :
    ∃ (d : Reg) (imm : BitVec 32), i = mk d imm ∧ writable d = true ∧ w = slotWord (Fields.ofWord w).opcode (regField d) 0 0 imm := by
  simp only [decodeForm, bind_eq_ok, require_eq_ok, Bool.and_eq_true, beq_iff_eq] at h
  obtain ⟨_, ⟨h1, h2⟩, d, hd, h⟩ := h
  obtain ⟨h5, h6⟩ := regField_of_writableNumber hd
  exact ⟨d, _, (Except.ok.inj h).symm, h6, slotWord_of_fields h5.symm h1 h2 rfl⟩

theorem decodeForm_aluX {mk : Reg → Reg → Instr} (h : decodeForm lcf w w2 (.aluX mk) = .ok i) :
    ∃ (d : Reg) (r : Reg), i = mk d r ∧ writable d = true ∧ w = slotWord (Fields.ofWord w).opcode (regField d) (regField r) 0 0 := by
  simp only [decodeForm, bind_eq_ok, require_eq_ok, Bool.and_eq_true, beq_iff_eq] at h
  obtain ⟨_, ⟨h1, h2⟩, d, hd, r, hr, h⟩ := h
  obtain ⟨h5, h6⟩ := regField_of_writableNumber hd
  exact ⟨d, r, (Except.ok.inj h).symm, h6, slotWord_of_fields h5.symm (regField_of_regNumber hr).symm h1 h2⟩

theorem decodeForm_aluUn {mk : Reg → Instr} (h : decodeForm lcf w w2 (.aluUn mk) = .ok i) :
    ∃ (d : Reg), i = mk d ∧ writable d = true ∧ w = slotWord (Fields.ofWord w).opcode (regField d) 0 0 0 := by
  simp only [decodeForm, bind_eq_ok, require_eq_ok, Bool.and_eq_true, beq_iff_eq] at h
  obtain ⟨_, ⟨⟨h1, h2⟩, h3⟩, d, hd, h⟩ := h
  obtain ⟨h5, h6⟩ := regField_of_writableNumber hd
  exact ⟨d, (Except.ok.inj h).symm, h6, slotWord_of_fields h5.symm h1 h2 h3⟩

theorem decodeForm_swap {mk : Reg → Instr} (h : decodeForm lcf w w2 (.swap mk) = .ok i) :
    ∃ (d : Reg) (imm : BitVec 32), i = mk d ∧ writable d = true ∧ w = slotWord (Fields.ofWord w).opcode (regField d) 0 0 imm := by
  simp only [decodeForm, bind_eq_ok, require_eq_ok, Bool.and_eq_true, beq_iff_eq] at h
  obtain ⟨_, ⟨h1, h2⟩, d, hd, h⟩ := h
  obtain ⟨h5, h6⟩ := regField_of_writableNumber hd
  exact ⟨d, _, (Except.ok.inj h).symm, h6, slotWord_of_fields h5.symm h1 h2 rfl⟩

theorem decodeForm_ja {mk : BitVec 16 → Instr} (h : decodeForm lcf w w2 (.ja mk) = .ok i) :
    ∃ (off : BitVec 16), i = mk off ∧ w = slotWord (Fields.ofWord w).opcode 0 0 off 0 := by
  simp only [decodeForm, bind_eq_ok, require_eq_ok, Bool.and_eq_true, beq_iff_eq] at h
  obtain ⟨_, ⟨⟨h1, h2⟩, h3⟩, h⟩ := h
  exact ⟨_, (Except.ok.inj h).symm, slotWord_of_fields h1 h2 rfl h3⟩

theorem decodeForm_jccK {mk : Reg → BitVec 32 → BitVec 16 → Instr} (h : decodeForm lcf w w2 (.jccK mk) = .ok i) :
    ∃ (d : Reg) (imm : BitVec 32) (off : BitVec 16), i = mk d imm off ∧ w = slotWord (Fields.ofWord w).opcode (regField d) 0 off imm := by
  simp only [decodeForm, bind_eq_ok, require_eq_ok, beq_iff_eq] at h
  obtain ⟨_, h1, d, hd, h⟩ := h
  exact ⟨d, _, _, (Except.ok.inj h).symm, slotWord_of_fields (regField_of_regNumber hd).symm h1 rfl rfl⟩

theorem decodeForm_jccX {mk : Reg → Reg → BitVec 16 → Instr} (h : decodeForm lcf w w2 (.jccX mk) = .ok i) :
    ∃ (d : Reg) (r : Reg) (off : BitVec 16), i = mk d r off ∧ w = slotWord (Fields.ofWord w).opcode (regField d) (regField r) off 0 := by
  simp only [decodeForm, bind_eq_ok, require_eq_ok, beq_iff_eq] at h
  obtain ⟨_, h1, d, hd, r, hr, h⟩ := h
  exact ⟨d, r, _, (Except.ok.inj h).symm, slotWord_of_fields (regField_of_regNumber hd).symm (regField_of_regNumber hr).symm rfl h1⟩

theorem decodeForm_callHelper {mk : BitVec 32 → Instr} (h : decodeForm lcf w w2 (.callHelper mk) = .ok i) :
    ∃ (r : BitVec 4) (imm : BitVec 32), i = mk imm ∧ w = slotWord (Fields.ofWord w).opcode 0 r 0 imm := by
  simp only [decodeForm, bind_eq_ok, require_eq_ok, Bool.and_eq_true, beq_iff_eq] at h
  obtain ⟨_, ⟨h1, h2⟩, h⟩ := h
  exact ⟨_, _, (Except.ok.inj h).symm, slotWord_of_fields h1 rfl h2 rfl⟩

theorem decodeForm_exit {mk : Instr} (h : decodeForm lcf w w2 (.exit mk) = .ok i) :
    i = mk ∧ w = slotWord (Fields.ofWord w).opcode 0 0 0 0 := by
  simp only [decodeForm, bind_eq_ok, require_eq_ok, Bool.and_eq_true, beq_iff_eq] at h
  obtain ⟨_, ⟨⟨⟨h1, h2⟩, h3⟩, h4⟩, h⟩ := h
  exact ⟨(Except.ok.inj h).symm, slotWord_of_fields h1 h2 h3 h4⟩

theorem decodeForm_ldx {mk : Reg → Reg → BitVec 16 → Instr} (h : decodeForm lcf w w2 (.ldx mk) = .ok i) :
    ∃ (d : Reg) (r : Reg) (off : BitVec 16), i = mk d r off ∧ writable d = true ∧ w = slotWord (Fields.ofWord w).opcode (regField d) (regField r) off 0 := by
  simp only [decodeForm, bind_eq_ok, require_eq_ok, beq_iff_eq] at h
  obtain ⟨_, h1, d, hd, r, hr, h⟩ := h
  obtain ⟨h5, h6⟩ := regField_of_writableNumber hd
  exact ⟨d, r, _, (Except.ok.inj h).symm, h6, slotWord_of_fields h5.symm (regField_of_regNumber hr).symm rfl h1⟩

theorem decodeForm_st {mk : Reg → BitVec 16 → BitVec 32 → Instr} (h : decodeForm lcf w w2 (.st mk) = .ok i) :
    ∃ (d : Reg) (off : BitVec 16) (imm : BitVec 32), i = mk d off imm ∧ w = slotWord (Fields.ofWord w).opcode (regField d) 0 off imm := by
  simp only [decodeForm, bind_eq_ok, require_eq_ok, beq_iff_eq] at h
  obtain ⟨_, h1, d, hd, h⟩ := h
  exact ⟨d, _, _, (Except.ok.inj h).symm, slotWord_of_fields (regField_of_regNumber hd).symm h1 rfl rfl⟩

theorem decodeForm_stx {mk : Reg → Reg → BitVec 16 → Instr} (h : decodeForm lcf w w2 (.stx mk) = .ok i) :
    ∃ (d : Reg) (r : Reg) (off : BitVec 16), i = mk d r off ∧ w = slotWord (Fields.ofWord w).opcode (regField d) (regField r) off 0 := by
  simp only [decodeForm, bind_eq_ok, require_eq_ok, beq_iff_eq] at h
  obtain ⟨_, h1, d, hd, r, hr, h⟩ := h
  exact ⟨d, r, _, (Except.ok.inj h).symm, slotWord_of_fields (regField_of_regNumber hd).symm (regField_of_regNumber hr).symm rfl h1⟩

theorem decodeForm_callLocal {mk : BitVec 16 → BitVec 32 → Instr} (h : decodeForm lcf w w2 (.callLocal mk) = .ok i) :
    ∃ (r : BitVec 4) (off : BitVec 16) (imm : BitVec 32), i = mk off imm ∧ localCallUnusedZero lcf off imm = true ∧
      w = slotWord (Fields.ofWord w).opcode 0 r off imm := by
  simp only [decodeForm, bind_eq_ok, require_eq_ok, Bool.and_eq_true, beq_iff_eq] at h
  obtain ⟨_, ⟨h1, h2⟩, h⟩ := h
  exact ⟨_, _, _, (Except.ok.inj h).symm, h2, slotWord_of_fields h1 rfl rfl rfl⟩

theorem decodeForm_atomic {mk : Reg → Reg → BitVec 16 → Instr} (h : decodeForm lcf w w2 (.atomic mk) = .ok i) :
    ∃ (d r : Reg) (off : BitVec 16), i = mk d r off ∧
      w = slotWord (Fields.ofWord w).opcode (regField d) (regField r) off (Fields.ofWord w).imm := by
  simp only [decodeForm, bind_eq_ok] at h
  obtain ⟨d, hd, r, hr, h⟩ := h
  exact ⟨d, r, _, (Except.ok.inj h).symm,
    slotWord_of_fields (regField_of_regNumber hd).symm (regField_of_regNumber hr).symm rfl rfl⟩

theorem decodeForm_atomicFetch {mk : Reg → Reg → BitVec 16 → Instr}
    (h : decodeForm lcf w w2 (.atomicFetch mk) = .ok i) :
    ∃ (d r : Reg) (off : BitVec 16), i = mk d r off ∧ writable r = true ∧
      w = slotWord (Fields.ofWord w).opcode (regField d) (regField r) off (Fields.ofWord w).imm := by
  simp only [decodeForm, bind_eq_ok] at h
  obtain ⟨d, hd, r, hr, h⟩ := h
  obtain ⟨h5, h6⟩ := regField_of_writableNumber hr
  exact ⟨d, r, _, (Except.ok.inj h).symm, h6,
    slotWord_of_fields (regField_of_regNumber hd).symm h5.symm rfl rfl⟩

/-- The second slot of a wide instruction is there, and is its `next_imm` alone. -/
theorem secondSlotImm_eq_ok {next : BitVec 32} (h : secondSlotImm w2 = .ok next) : w2 = some (secondSlot next) := by
  unfold secondSlotImm at h
  split at h
  · simp at h
  · next v =>
    simp only [bind_eq_ok, require_eq_ok, beq_iff_eq] at h
    obtain ⟨_, h0, h⟩ := h
    have h1 : (Fields.ofWord v).opcode = 0 ∧ (Fields.ofWord v).dst = 0 ∧ (Fields.ofWord v).src = 0 ∧
        (Fields.ofWord v).off = 0 := by
      have bit (k : Nat) (hk : k < 32) : v.getLsbD k = false := by
        have := congrArg (fun x => x.getLsbD k) h0
        simpa [BitVec.getLsbD_extractLsb', hk] using this
      simp only [Fields.ofWord]
      refine ⟨?_, ?_, ?_, ?_⟩ <;> ext k hk <;> rw [BitVec.getElem_extractLsb', bit] <;> first | omega | simp
    obtain ⟨h1, h2, h3, h4⟩ := h1
    have := slotWord_of_fields h2 h3 h4 (Except.ok.inj h : (Fields.ofWord v).imm = next)
    rw [h1] at this
    exact congrArg some this

theorem decodeForm_lddw2 {mk : Reg → BitVec 32 → BitVec 32 → Instr} (h : decodeForm lcf w w2 (.lddw2 mk) = .ok i) :
    ∃ (d : Reg) (r : BitVec 4) (imm next : BitVec 32), i = mk d imm next ∧ writable d = true ∧
      w = slotWord (Fields.ofWord w).opcode (regField d) r 0 imm ∧ r = (Fields.ofWord w).src ∧
      w2 = some (secondSlot next) := by
  simp only [decodeForm, bind_eq_ok, require_eq_ok, beq_iff_eq] at h
  obtain ⟨_, h1, d, hd, next, hn, h⟩ := h
  obtain ⟨h5, h6⟩ := regField_of_writableNumber hd
  exact ⟨d, _, _, next, (Except.ok.inj h).symm, h6, slotWord_of_fields h5.symm rfl h1 rfl, rfl,
    secondSlotImm_eq_ok hn⟩

theorem decodeForm_lddw1 {mk : Reg → BitVec 32 → Instr} (h : decodeForm lcf w w2 (.lddw1 mk) = .ok i) :
    ∃ (d : Reg) (r : BitVec 4) (imm : BitVec 32), i = mk d imm ∧ writable d = true ∧
      w = slotWord (Fields.ofWord w).opcode (regField d) r 0 imm ∧ r = (Fields.ofWord w).src ∧
      w2 = some (secondSlot 0) := by
  simp only [decodeForm, bind_eq_ok, require_eq_ok, beq_iff_eq] at h
  obtain ⟨_, h1, d, hd, next, hn, _, h0, h⟩ := h
  obtain ⟨h5, h6⟩ := regField_of_writableNumber hd
  subst h0
  exact ⟨d, _, _, (Except.ok.inj h).symm, h6, slotWord_of_fields h5.symm rfl h1 rfl, rfl, secondSlotImm_eq_ok hn⟩

end

end Sys2Proof
end

