-- ==== Sys2Proof/Laws/State.lean ====
section
/-! SUPPORT. Sys2Proof/Laws/State.lean: what each update of the state leaves, field by field, and what the registers
read after it. -/

namespace Sys2Proof.Machine

/-! ## Raising a fault -/

@[simp] theorem raise_cfg (f : Fault) (s : State) : (raise f s).cfg = s.cfg := rfl
@[simp] theorem raise_text (f : Fault) (s : State) : (raise f s).text = s.text := rfl
@[simp] theorem raise_regs (f : Fault) (s : State) : (raise f s).regs = s.regs := rfl
@[simp] theorem raise_pc (f : Fault) (s : State) : (raise f s).pc = s.pc := rfl
@[simp] theorem raise_callStack (f : Fault) (s : State) : (raise f s).callStack = s.callStack := rfl
@[simp] theorem raise_mem (f : Fault) (s : State) : (raise f s).mem = s.mem := rfl
@[simp] theorem raise_draws (f : Fault) (s : State) : (raise f s).draws = s.draws := rfl
@[simp] theorem raise_env (f : Fault) (s : State) : (raise f s).env = s.env := rfl
@[simp] theorem raise_during (f : Fault) (s : State) : (raise f s).during = s.during := rfl
@[simp] theorem raise_times (f : Fault) (s : State) : (raise f s).times = s.times := rfl

@[simp] theorem raise_status (f : Fault) (s : State) : (raise f s).status = .faulted f := rfl
@[simp] theorem raise_reg (f : Fault) (s : State) (r : Reg) : (raise f s).reg r = s.reg r := rfl
@[simp] theorem raise_byteAt (f : Fault) (s : State) (a : Nat) : (raise f s).byteAt a = s.byteAt a := rfl

/-! ## The program counter -/

@[simp] theorem setPc_pc (s : State) (k : Nat) : (s.setPc k).pc = k := rfl
@[simp] theorem setPc_cfg (s : State) (k : Nat) : (s.setPc k).cfg = s.cfg := rfl
@[simp] theorem setPc_text (s : State) (k : Nat) : (s.setPc k).text = s.text := rfl
@[simp] theorem setPc_regs (s : State) (k : Nat) : (s.setPc k).regs = s.regs := rfl
@[simp] theorem setPc_callStack (s : State) (k : Nat) : (s.setPc k).callStack = s.callStack := rfl
@[simp] theorem setPc_mem (s : State) (k : Nat) : (s.setPc k).mem = s.mem := rfl
@[simp] theorem setPc_status (s : State) (k : Nat) : (s.setPc k).status = s.status := rfl
@[simp] theorem setPc_draws (s : State) (k : Nat) : (s.setPc k).draws = s.draws := rfl
@[simp] theorem setPc_env (s : State) (k : Nat) : (s.setPc k).env = s.env := rfl
@[simp] theorem setPc_during (s : State) (k : Nat) : (s.setPc k).during = s.during := rfl
@[simp] theorem setPc_times (s : State) (k : Nat) : (s.setPc k).times = s.times := rfl
@[simp] theorem setPc_reg (s : State) (k : Nat) (r : Reg) : (s.setPc k).reg r = s.reg r := rfl
@[simp] theorem setPc_byteAt (s : State) (k a : Nat) : (s.setPc k).byteAt a = s.byteAt a := rfl

/-! ## Writing a register -/

@[simp] theorem setReg_cfg (s : State) (r : Reg) (c : RegContent) : (s.setReg r c).cfg = s.cfg := rfl
@[simp] theorem setReg_text (s : State) (r : Reg) (c : RegContent) : (s.setReg r c).text = s.text := rfl
@[simp] theorem setReg_pc (s : State) (r : Reg) (c : RegContent) : (s.setReg r c).pc = s.pc := rfl
@[simp] theorem setReg_callStack (s : State) (r : Reg) (c : RegContent) : (s.setReg r c).callStack = s.callStack := rfl
@[simp] theorem setReg_mem (s : State) (r : Reg) (c : RegContent) : (s.setReg r c).mem = s.mem := rfl
@[simp] theorem setReg_status (s : State) (r : Reg) (c : RegContent) : (s.setReg r c).status = s.status := rfl
@[simp] theorem setReg_draws (s : State) (r : Reg) (c : RegContent) : (s.setReg r c).draws = s.draws := rfl
@[simp] theorem setReg_env (s : State) (r : Reg) (c : RegContent) : (s.setReg r c).env = s.env := rfl
@[simp] theorem setReg_during (s : State) (r : Reg) (c : RegContent) : (s.setReg r c).during = s.during := rfl
@[simp] theorem setReg_times (s : State) (r : Reg) (c : RegContent) : (s.setReg r c).times = s.times := rfl

@[simp] theorem write_cfg (s : State) (r : Reg) (v : Word) : (s.write r v).cfg = s.cfg := rfl
@[simp] theorem write_text (s : State) (r : Reg) (v : Word) : (s.write r v).text = s.text := rfl
@[simp] theorem write_pc (s : State) (r : Reg) (v : Word) : (s.write r v).pc = s.pc := rfl
@[simp] theorem write_callStack (s : State) (r : Reg) (v : Word) : (s.write r v).callStack = s.callStack := rfl
@[simp] theorem write_mem (s : State) (r : Reg) (v : Word) : (s.write r v).mem = s.mem := rfl
@[simp] theorem write_status (s : State) (r : Reg) (v : Word) : (s.write r v).status = s.status := rfl
@[simp] theorem write_draws (s : State) (r : Reg) (v : Word) : (s.write r v).draws = s.draws := rfl
@[simp] theorem write_env (s : State) (r : Reg) (v : Word) : (s.write r v).env = s.env := rfl
@[simp] theorem write_during (s : State) (r : Reg) (v : Word) : (s.write r v).during = s.during := rfl
@[simp] theorem write_times (s : State) (r : Reg) (v : Word) : (s.write r v).times = s.times := rfl

theorem reg_setReg (s : State) (r q : Reg) (c : RegContent) :
    (s.setReg r c).reg q = if q = r then c else s.reg q := by
  simp only [State.reg, State.setReg, Fin.getElem_fin, Vector.getElem_set]
  by_cases h : q = r
  · simp [h]
  · have : ¬ r.val = q.val := fun e => h (Fin.ext e.symm)
    simp [h, this]

@[simp] theorem reg_setReg_self (s : State) (r : Reg) (c : RegContent) : (s.setReg r c).reg r = c := by
  simp [reg_setReg]

theorem reg_write (s : State) (r q : Reg) (v : Word) :
    (s.write r v).reg q = if q = r then .value v else s.reg q := reg_setReg s r q _

@[simp] theorem reg_write_self (s : State) (r : Reg) (v : Word) : (s.write r v).reg r = .value v := by
  simp [reg_write]

theorem reg_write_of_ne {r q : Reg} (s : State) (v : Word) (h : q ≠ r) : (s.write r v).reg q = s.reg q := by
  simp [reg_write, h]

@[simp] theorem write_byteAt (s : State) (r : Reg) (v : Word) (a : Nat) : (s.write r v).byteAt a = s.byteAt a := rfl
@[simp] theorem setReg_byteAt (s : State) (r : Reg) (c : RegContent) (a : Nat) :
    (s.setReg r c).byteAt a = s.byteAt a := rfl

/-! ## Taking values away -/

theorem clobber_cons (s : State) (r : Reg) (rs : List Reg) : s.clobber (r :: rs) = (s.setReg r .noValue).clobber rs := rfl

@[simp] theorem clobber_nil (s : State) : s.clobber [] = s := rfl
@[simp] theorem clobber_cfg (s : State) (rs : List Reg) : (s.clobber rs).cfg = s.cfg := by
  induction rs generalizing s with
  | nil => rfl
  | cons r rs ih => rw [clobber_cons, ih, setReg_cfg]
@[simp] theorem clobber_text (s : State) (rs : List Reg) : (s.clobber rs).text = s.text := by
  induction rs generalizing s with
  | nil => rfl
  | cons r rs ih => rw [clobber_cons, ih, setReg_text]
@[simp] theorem clobber_pc (s : State) (rs : List Reg) : (s.clobber rs).pc = s.pc := by
  induction rs generalizing s with
  | nil => rfl
  | cons r rs ih => rw [clobber_cons, ih, setReg_pc]
@[simp] theorem clobber_callStack (s : State) (rs : List Reg) : (s.clobber rs).callStack = s.callStack := by
  induction rs generalizing s with
  | nil => rfl
  | cons r rs ih => rw [clobber_cons, ih, setReg_callStack]
@[simp] theorem clobber_mem (s : State) (rs : List Reg) : (s.clobber rs).mem = s.mem := by
  induction rs generalizing s with
  | nil => rfl
  | cons r rs ih => rw [clobber_cons, ih, setReg_mem]
@[simp] theorem clobber_status (s : State) (rs : List Reg) : (s.clobber rs).status = s.status := by
  induction rs generalizing s with
  | nil => rfl
  | cons r rs ih => rw [clobber_cons, ih, setReg_status]
@[simp] theorem clobber_draws (s : State) (rs : List Reg) : (s.clobber rs).draws = s.draws := by
  induction rs generalizing s with
  | nil => rfl
  | cons r rs ih => rw [clobber_cons, ih, setReg_draws]
@[simp] theorem clobber_env (s : State) (rs : List Reg) : (s.clobber rs).env = s.env := by
  induction rs generalizing s with
  | nil => rfl
  | cons r rs ih => rw [clobber_cons, ih, setReg_env]
@[simp] theorem clobber_during (s : State) (rs : List Reg) : (s.clobber rs).during = s.during := by
  induction rs generalizing s with
  | nil => rfl
  | cons r rs ih => rw [clobber_cons, ih, setReg_during]
@[simp] theorem clobber_times (s : State) (rs : List Reg) : (s.clobber rs).times = s.times := by
  induction rs generalizing s with
  | nil => rfl
  | cons r rs ih => rw [clobber_cons, ih, setReg_times]

theorem reg_clobber (s : State) (rs : List Reg) (q : Reg) :
    (s.clobber rs).reg q = if q ∈ rs then .noValue else s.reg q := by
  induction rs generalizing s with
  | nil => simp
  | cons r rs ih =>
    rw [clobber_cons, ih, reg_setReg]
    by_cases h : q ∈ rs <;> by_cases e : q = r <;> simp [h, e]

theorem reg_clobber_of_not_mem {rs : List Reg} {q : Reg} (s : State) (h : q ∉ rs) :
    (s.clobber rs).reg q = s.reg q := by simp [reg_clobber, h]

@[simp] theorem clobber_byteAt (s : State) (rs : List Reg) (a : Nat) : (s.clobber rs).byteAt a = s.byteAt a := by
  simp [State.byteAt]

/-! ## Storing -/

@[simp] theorem store_cfg (s : State) (addr : Word) (n : Nat) (v : Word) : (s.store addr n v).cfg = s.cfg := rfl
@[simp] theorem store_text (s : State) (addr : Word) (n : Nat) (v : Word) : (s.store addr n v).text = s.text := rfl
@[simp] theorem store_regs (s : State) (addr : Word) (n : Nat) (v : Word) : (s.store addr n v).regs = s.regs := rfl
@[simp] theorem store_pc (s : State) (addr : Word) (n : Nat) (v : Word) : (s.store addr n v).pc = s.pc := rfl
@[simp] theorem store_callStack (s : State) (addr : Word) (n : Nat) (v : Word) : (s.store addr n v).callStack = s.callStack := rfl
@[simp] theorem store_status (s : State) (addr : Word) (n : Nat) (v : Word) : (s.store addr n v).status = s.status := rfl
@[simp] theorem store_draws (s : State) (addr : Word) (n : Nat) (v : Word) : (s.store addr n v).draws = s.draws := rfl
@[simp] theorem store_env (s : State) (addr : Word) (n : Nat) (v : Word) : (s.store addr n v).env = s.env := rfl
@[simp] theorem store_during (s : State) (addr : Word) (n : Nat) (v : Word) : (s.store addr n v).during = s.during := rfl
@[simp] theorem store_times (s : State) (addr : Word) (n : Nat) (v : Word) : (s.store addr n v).times = s.times := rfl

@[simp] theorem store_reg (s : State) (addr : Word) (n : Nat) (v : Word) (r : Reg) :
    (s.store addr n v).reg r = s.reg r := rfl

/-! ## The environment -/

@[simp] theorem envWrite_cfg (s : State) (cells : List Host.Cell) : (envWrite s cells).cfg = s.cfg := rfl
@[simp] theorem envWrite_text (s : State) (cells : List Host.Cell) : (envWrite s cells).text = s.text := rfl
@[simp] theorem envWrite_regs (s : State) (cells : List Host.Cell) : (envWrite s cells).regs = s.regs := rfl
@[simp] theorem envWrite_pc (s : State) (cells : List Host.Cell) : (envWrite s cells).pc = s.pc := rfl
@[simp] theorem envWrite_callStack (s : State) (cells : List Host.Cell) : (envWrite s cells).callStack = s.callStack := rfl
@[simp] theorem envWrite_status (s : State) (cells : List Host.Cell) : (envWrite s cells).status = s.status := rfl
@[simp] theorem envWrite_draws (s : State) (cells : List Host.Cell) : (envWrite s cells).draws = s.draws := rfl
@[simp] theorem envWrite_env (s : State) (cells : List Host.Cell) : (envWrite s cells).env = s.env := rfl
@[simp] theorem envWrite_during (s : State) (cells : List Host.Cell) : (envWrite s cells).during = s.during := rfl
@[simp] theorem envWrite_times (s : State) (cells : List Host.Cell) : (envWrite s cells).times = s.times := rfl

@[simp] theorem envWrite_reg (s : State) (cells : List Host.Cell) (r : Reg) :
    (envWrite s cells).reg r = s.reg r := rfl

@[simp] theorem envWrites_nil (s : State) : envWrites s [] = s := rfl

theorem envWrites_cons (s : State) (move : List Host.Cell) (moves : List (List Host.Cell)) :
    envWrites s (move :: moves) = envWrites (envWrite s move) moves := rfl

/-- Environment moves change memory alone (rule R74). -/
theorem envWrites_eq (s : State) (moves : List (List Host.Cell)) :
    envWrites s moves = { s with mem := (envWrites s moves).mem } := by
  induction moves generalizing s with
  | nil => rfl
  | cons move moves ih => rw [envWrites_cons, ih]; rfl

@[simp] theorem envWrites_cfg (s : State) (moves : List (List Host.Cell)) : (envWrites s moves).cfg = s.cfg := by
  rw [envWrites_eq]
@[simp] theorem envWrites_text (s : State) (moves : List (List Host.Cell)) : (envWrites s moves).text = s.text := by
  rw [envWrites_eq]
@[simp] theorem envWrites_regs (s : State) (moves : List (List Host.Cell)) : (envWrites s moves).regs = s.regs := by
  rw [envWrites_eq]
@[simp] theorem envWrites_pc (s : State) (moves : List (List Host.Cell)) : (envWrites s moves).pc = s.pc := by
  rw [envWrites_eq]
@[simp] theorem envWrites_callStack (s : State) (moves : List (List Host.Cell)) : (envWrites s moves).callStack = s.callStack := by
  rw [envWrites_eq]
@[simp] theorem envWrites_status (s : State) (moves : List (List Host.Cell)) : (envWrites s moves).status = s.status := by
  rw [envWrites_eq]
@[simp] theorem envWrites_draws (s : State) (moves : List (List Host.Cell)) : (envWrites s moves).draws = s.draws := by
  rw [envWrites_eq]
@[simp] theorem envWrites_env (s : State) (moves : List (List Host.Cell)) : (envWrites s moves).env = s.env := by
  rw [envWrites_eq]
@[simp] theorem envWrites_during (s : State) (moves : List (List Host.Cell)) : (envWrites s moves).during = s.during := by
  rw [envWrites_eq]
@[simp] theorem envWrites_times (s : State) (moves : List (List Host.Cell)) : (envWrites s moves).times = s.times := by
  rw [envWrites_eq]
@[simp] theorem envWrites_reg (s : State) (moves : List (List Host.Cell)) (r : Reg) :
    (envWrites s moves).reg r = s.reg r := by rw [envWrites_eq]; rfl

/-- A plain store, interleaved with environment moves or not, changes memory alone (rules R63, R71). -/
theorem storeThrough_eq (s : State) (moves : List (List Host.Cell)) (addr : Word) (n : Nat) (v : Word) :
    storeThrough s moves addr n v = { s with mem := (storeThrough s moves addr n v).mem } := by
  have all : ∀ (due : State → Nat → State) (ms : List (List Host.Cell)) (t : State) (j : Nat),
      (∀ t j, due t j = { t with mem := (due t j).mem }) →
      interleave due t ms j = { t with mem := (interleave due t ms j).mem } := by
    intro due ms
    induction ms with
    | nil => exact fun t j h => h t j
    | cons m ms ih =>
      intro t j h
      simp only [interleave]
      rw [ih _ _ h]
      simp only [envWrite]
      rw [h]
  exact all _ _ _ _ fun _ _ => rfl

@[simp] theorem storeThrough_cfg (s : State) (moves : List (List Host.Cell)) (addr : Word) (n : Nat) (v : Word) :
    (storeThrough s moves addr n v).cfg = s.cfg := by rw [storeThrough_eq]
@[simp] theorem storeThrough_text (s : State) (moves : List (List Host.Cell)) (addr : Word) (n : Nat) (v : Word) :
    (storeThrough s moves addr n v).text = s.text := by rw [storeThrough_eq]
@[simp] theorem storeThrough_regs (s : State) (moves : List (List Host.Cell)) (addr : Word) (n : Nat) (v : Word) :
    (storeThrough s moves addr n v).regs = s.regs := by rw [storeThrough_eq]
@[simp] theorem storeThrough_pc (s : State) (moves : List (List Host.Cell)) (addr : Word) (n : Nat) (v : Word) :
    (storeThrough s moves addr n v).pc = s.pc := by rw [storeThrough_eq]
@[simp] theorem storeThrough_callStack (s : State) (moves : List (List Host.Cell)) (addr : Word) (n : Nat) (v : Word) :
    (storeThrough s moves addr n v).callStack = s.callStack := by rw [storeThrough_eq]
@[simp] theorem storeThrough_status (s : State) (moves : List (List Host.Cell)) (addr : Word) (n : Nat) (v : Word) :
    (storeThrough s moves addr n v).status = s.status := by rw [storeThrough_eq]
@[simp] theorem storeThrough_draws (s : State) (moves : List (List Host.Cell)) (addr : Word) (n : Nat) (v : Word) :
    (storeThrough s moves addr n v).draws = s.draws := by rw [storeThrough_eq]
@[simp] theorem storeThrough_env (s : State) (moves : List (List Host.Cell)) (addr : Word) (n : Nat) (v : Word) :
    (storeThrough s moves addr n v).env = s.env := by rw [storeThrough_eq]
@[simp] theorem storeThrough_during (s : State) (moves : List (List Host.Cell)) (addr : Word) (n : Nat) (v : Word) :
    (storeThrough s moves addr n v).during = s.during := by rw [storeThrough_eq]
@[simp] theorem storeThrough_times (s : State) (moves : List (List Host.Cell)) (addr : Word) (n : Nat) (v : Word) :
    (storeThrough s moves addr n v).times = s.times := by rw [storeThrough_eq]
@[simp] theorem storeThrough_reg (s : State) (moves : List (List Host.Cell)) (addr : Word) (n : Nat) (v : Word)
    (r : Reg) : (storeThrough s moves addr n v).reg r = s.reg r := by rw [storeThrough_eq]; rfl

@[simp] theorem betweenSteps_cfg (s : State) : s.betweenSteps.cfg = s.cfg := by
  unfold State.betweenSteps; split <;> rfl
@[simp] theorem betweenSteps_text (s : State) : s.betweenSteps.text = s.text := by
  unfold State.betweenSteps; split <;> rfl
@[simp] theorem betweenSteps_regs (s : State) : s.betweenSteps.regs = s.regs := by
  unfold State.betweenSteps; split <;> rfl
@[simp] theorem betweenSteps_pc (s : State) : s.betweenSteps.pc = s.pc := by
  unfold State.betweenSteps; split <;> rfl
@[simp] theorem betweenSteps_callStack (s : State) : s.betweenSteps.callStack = s.callStack := by
  unfold State.betweenSteps; split <;> rfl
@[simp] theorem betweenSteps_status (s : State) : s.betweenSteps.status = s.status := by
  unfold State.betweenSteps; split <;> rfl
@[simp] theorem betweenSteps_draws (s : State) : s.betweenSteps.draws = s.draws + 1 := by
  unfold State.betweenSteps; split <;> rfl
@[simp] theorem betweenSteps_env (s : State) : s.betweenSteps.env = s.env.tail := by
  unfold State.betweenSteps; split <;> simp_all
@[simp] theorem betweenSteps_during (s : State) :
    s.betweenSteps.during = (s.env.head?.map EnvStep.during).getD [] := by
  unfold State.betweenSteps; split <;> simp_all
@[simp] theorem betweenSteps_times (s : State) :
    s.betweenSteps.times = (s.env.head?.map EnvStep.times).getD [] := by
  unfold State.betweenSteps; split <;> simp_all
@[simp] theorem betweenSteps_reg (s : State) (r : Reg) : s.betweenSteps.reg r = s.reg r := by
  unfold State.betweenSteps; split <;> rfl

/-! ## The call stack -/

@[simp] theorem pushFrame_cfg (s : State) (fp : Word) : (pushFrame s fp).cfg = s.cfg := by simp [pushFrame]
@[simp] theorem pushFrame_text (s : State) (fp : Word) : (pushFrame s fp).text = s.text := by simp [pushFrame]
@[simp] theorem pushFrame_pc (s : State) (fp : Word) : (pushFrame s fp).pc = s.pc := by simp [pushFrame]
@[simp] theorem pushFrame_mem (s : State) (fp : Word) : (pushFrame s fp).mem = s.mem := by simp [pushFrame]
@[simp] theorem pushFrame_status (s : State) (fp : Word) : (pushFrame s fp).status = s.status := by simp [pushFrame]
@[simp] theorem pushFrame_draws (s : State) (fp : Word) : (pushFrame s fp).draws = s.draws := by simp [pushFrame]
@[simp] theorem pushFrame_env (s : State) (fp : Word) : (pushFrame s fp).env = s.env := by simp [pushFrame]
@[simp] theorem pushFrame_during (s : State) (fp : Word) : (pushFrame s fp).during = s.during := by simp [pushFrame]
@[simp] theorem pushFrame_times (s : State) (fp : Word) : (pushFrame s fp).times = s.times := by simp [pushFrame]

@[simp] theorem pushFrame_callStack (s : State) (fp : Word) :
    (pushFrame s fp).callStack = callerFrame s fp :: s.callStack := by simp [pushFrame]

theorem reg_pushFrame (s : State) (fp : Word) (q : Reg) :
    (pushFrame s fp).reg q =
      if q = 10 then .value (fp - s.cfg.frameStride)
      else if q ∈ ([0, 6, 7, 8, 9] : List Reg) then .noValue else s.reg q := by
  rw [pushFrame, reg_write, reg_clobber]; rfl

@[simp] theorem popFrame_cfg (s : State) (fr : Frame) (rest : List Frame) : (popFrame s fr rest).cfg = s.cfg := by simp [popFrame]
@[simp] theorem popFrame_text (s : State) (fr : Frame) (rest : List Frame) : (popFrame s fr rest).text = s.text := by simp [popFrame]
@[simp] theorem popFrame_pc (s : State) (fr : Frame) (rest : List Frame) : (popFrame s fr rest).pc = s.pc := by simp [popFrame]
@[simp] theorem popFrame_mem (s : State) (fr : Frame) (rest : List Frame) : (popFrame s fr rest).mem = s.mem := by simp [popFrame]
@[simp] theorem popFrame_status (s : State) (fr : Frame) (rest : List Frame) : (popFrame s fr rest).status = s.status := by simp [popFrame]
@[simp] theorem popFrame_draws (s : State) (fr : Frame) (rest : List Frame) : (popFrame s fr rest).draws = s.draws := by simp [popFrame]
@[simp] theorem popFrame_env (s : State) (fr : Frame) (rest : List Frame) : (popFrame s fr rest).env = s.env := by simp [popFrame]
@[simp] theorem popFrame_during (s : State) (fr : Frame) (rest : List Frame) : (popFrame s fr rest).during = s.during := by simp [popFrame]
@[simp] theorem popFrame_times (s : State) (fr : Frame) (rest : List Frame) : (popFrame s fr rest).times = s.times := by simp [popFrame]

@[simp] theorem popFrame_callStack (s : State) (fr : Frame) (rest : List Frame) :
    (popFrame s fr rest).callStack = rest := by simp [popFrame]

theorem reg_popFrame (s : State) (fr : Frame) (rest : List Frame) (q : Reg) :
    (popFrame s fr rest).reg q =
      if q ∈ argRegs then .noValue
      else if q = 10 then .value fr.s10
      else if q = 9 then fr.s9
      else if q = 8 then fr.s8
      else if q = 7 then fr.s7
      else if q = 6 then fr.s6
      else s.reg q := by
  simp only [popFrame, reg_clobber, reg_write, reg_setReg]; rfl

/-! ## Helpers -/

@[simp] theorem applyHelper_cfg (s : State) (a : HelperAnswer) : (applyHelper s a).cfg = s.cfg := by simp [applyHelper]
@[simp] theorem applyHelper_text (s : State) (a : HelperAnswer) : (applyHelper s a).text = s.text := by simp [applyHelper]
@[simp] theorem applyHelper_pc (s : State) (a : HelperAnswer) : (applyHelper s a).pc = s.pc := by simp [applyHelper]
@[simp] theorem applyHelper_callStack (s : State) (a : HelperAnswer) : (applyHelper s a).callStack = s.callStack := by simp [applyHelper]
@[simp] theorem applyHelper_status (s : State) (a : HelperAnswer) : (applyHelper s a).status = s.status := by simp [applyHelper]
@[simp] theorem applyHelper_draws (s : State) (a : HelperAnswer) : (applyHelper s a).draws = s.draws := by simp [applyHelper]
@[simp] theorem applyHelper_env (s : State) (a : HelperAnswer) : (applyHelper s a).env = s.env := by simp [applyHelper]
@[simp] theorem applyHelper_during (s : State) (a : HelperAnswer) : (applyHelper s a).during = s.during := by simp [applyHelper]
@[simp] theorem applyHelper_times (s : State) (a : HelperAnswer) : (applyHelper s a).times = s.times := by simp [applyHelper]

theorem reg_applyHelper (s : State) (a : HelperAnswer) (q : Reg) :
    (applyHelper s a).reg q =
      if q ∈ argRegs then .noValue else if q = 0 then .value a.result else s.reg q := by
  rw [applyHelper, reg_clobber, reg_write]; rfl

end Sys2Proof.Machine
end

