-- ==== Sys2Proof/Laws/Memory.lean ====
section
/-! SUPPORT. Sys2Proof/Laws/Memory.lean: reading after writing, and the canonical form, which every operation on
memory keeps and the reset memory has. -/

namespace Sys2Proof.Machine

/-! ## One byte -/

theorem mem_set {m : Memory} {a : Nat} {b : Byte} {c : Host.Cell} (h : c ∈ Memory.set m a b) :
    c = (a, b) ∨ c ∈ m := by
  induction m with
  | nil => simpa [Memory.set] using h
  | cons d rest ih =>
    unfold Memory.set at h
    split at h
    · simpa using h
    · split at h
      · simp only [List.mem_cons] at h ⊢; tauto
      · simp only [List.mem_cons] at h ⊢
        rcases h with h | h
        · exact .inr (.inl h)
        · rcases ih h with h | h
          · exact .inl h
          · exact .inr (.inr h)

theorem set_wf {m : Memory} {a : Nat} (b : Byte) (h : Memory.wf m) (ha : a < 2 ^ 64) :
    Memory.wf (Memory.set m a b) := by
  obtain ⟨hp, hb⟩ := h
  refine ⟨?_, fun c hc => ?_⟩
  · induction m with
    | nil => simp [Memory.set]
    | cons d rest ih =>
      rw [List.pairwise_cons] at hp
      unfold Memory.set
      split
      · next hlt =>
        refine List.pairwise_cons.2 ⟨fun c hc => ?_, List.pairwise_cons.2 hp⟩
        rcases List.mem_cons.1 hc with rfl | hc
        · exact hlt
        · exact lt_trans hlt (hp.1 c hc)
      · split
        · next heq => exact List.pairwise_cons.2 ⟨fun c hc => by simpa [heq] using hp.1 c hc, hp.2⟩
        · refine List.pairwise_cons.2 ⟨fun c hc => ?_, ih hp.2 fun c hc => hb c (List.mem_cons_of_mem _ hc)⟩
          rcases mem_set hc with rfl | hc
          · simp only; omega
          · exact hp.1 c hc
  · rcases mem_set hc with rfl | hc
    · exact ha
    · exact hb c hc

/-- Reading after writing one byte. -/
theorem lookup_set {m : Memory} (hp : m.Pairwise (fun c d => c.1 < d.1)) (a : Nat) (b : Byte) (q : Nat) :
    Memory.lookup (Memory.set m a b) q = if q = a then some b else Memory.lookup m q := by
  induction m with
  | nil => simp [Memory.set, Memory.lookup, eq_comm]
  | cons d rest ih =>
    rw [List.pairwise_cons] at hp
    unfold Memory.set
    split
    · simp [Memory.lookup, eq_comm]
    · split
      · next heq =>
        subst heq
        simp only [Memory.lookup]
        by_cases e : q = d.1
        · simp [e]
        · simp [e, Ne.symm e]
      · next hne =>
        simp only [Memory.lookup, ih hp.2]
        by_cases e : d.1 = q
        · simp [e, show q ≠ a by omega]
        · simp [e]

/-- Reading another byte after writing one: no form of the list is needed. -/
theorem lookup_set_ne (m : Memory) {a q : Nat} (b : Byte) (h : q ≠ a) :
    Memory.lookup (Memory.set m a b) q = Memory.lookup m q := by
  induction m with
  | nil => simp [Memory.set, Memory.lookup, h.symm]
  | cons d rest ih =>
    unfold Memory.set
    split
    · simp [Memory.lookup, h.symm]
    · split
      · next heq => simp [Memory.lookup, h.symm, ← heq]
      · simp [Memory.lookup, ih]

/-- Reading the byte just written: no form of the list is needed. -/
theorem lookup_set_self (m : Memory) (a : Nat) (b : Byte) : Memory.lookup (Memory.set m a b) a = some b := by
  induction m with
  | nil => simp [Memory.set, Memory.lookup]
  | cons d rest ih =>
    unfold Memory.set
    split
    · simp [Memory.lookup]
    · split
      · simp [Memory.lookup]
      · next h => simp [Memory.lookup, ih, Ne.symm h]

/-! ## Several bytes -/

theorem setBytes_wf {m : Memory} {a : Nat} (bs : List Byte) (h : Memory.wf m) (ha : a + bs.length ≤ 2 ^ 64) :
    Memory.wf (Memory.setBytes m a bs) := by
  induction bs generalizing m a with
  | nil => exact h
  | cons b bs ih =>
    simp only [List.length_cons] at ha
    exact ih (set_wf b h (by omega)) (by omega)

theorem lookup_setBytes_outside (m : Memory) (a : Nat) (bs : List Byte) {q : Nat}
    (h : q < a ∨ a + bs.length ≤ q) : Memory.lookup (Memory.setBytes m a bs) q = Memory.lookup m q := by
  induction bs generalizing m a with
  | nil => rfl
  | cons b bs ih =>
    simp only [List.length_cons] at h
    rw [Memory.setBytes, ih _ _ (by omega), lookup_set_ne _ _ (by omega)]

theorem lookup_setBytes_inside (m : Memory) (a : Nat) (bs : List Byte) {i : Nat} (h : i < bs.length) :
    Memory.lookup (Memory.setBytes m a bs) (a + i) = some bs[i] := by
  induction bs generalizing m a i with
  | nil => simp at h
  | cons b bs ih =>
    rw [Memory.setBytes]
    cases i with
    | zero => rw [lookup_setBytes_outside _ _ _ (by omega)]; simp [lookup_set_self]
    | succ i =>
      simp only [List.length_cons] at h
      rw [show a + (i + 1) = a + 1 + i by omega, ih _ _ (by omega)]; simp

theorem setCells_wf {m : Memory} (cs : List Host.Cell) (h : Memory.wf m) (hc : ∀ c ∈ cs, c.1 < 2 ^ 64) :
    Memory.wf (Memory.setCells m cs) := by
  induction cs generalizing m with
  | nil => exact h
  | cons c cs ih =>
    exact ih (set_wf c.2 h (hc c (by simp))) fun d hd => hc d (List.mem_cons_of_mem _ hd)

theorem lookup_setCells_of_not_mem (m : Memory) (cs : List Host.Cell) {q : Nat} (h : ∀ c ∈ cs, c.1 ≠ q) :
    Memory.lookup (Memory.setCells m cs) q = Memory.lookup m q := by
  induction cs generalizing m with
  | nil => rfl
  | cons c cs ih =>
    show Memory.lookup (Memory.setCells (Memory.set m c.1 c.2) cs) q = _
    rw [ih _ fun d hd => h d (List.mem_cons_of_mem _ hd), lookup_set_ne _ _ (h c (by simp)).symm]

/-- Reading after writing a list of cells: the last one written there counts. -/
theorem lookup_setCells (m : Memory) (cs : List Host.Cell) (q : Nat) :
    Memory.lookup (Memory.setCells m cs) q =
      ((cs.reverse.find? (fun d => d.1 == q)).map Prod.snd).or (Memory.lookup m q) := by
  induction cs generalizing m with
  | nil => simp [Memory.setCells]
  | cons c cs ih =>
    show Memory.lookup (Memory.setCells (Memory.set m c.1 c.2) cs) q = _
    rw [ih, List.reverse_cons, List.find?_append]
    cases (cs.reverse.find? fun d => d.1 == q) with
    | some d => simp
    | none =>
      by_cases h : c.1 = q
      · simp [← h, lookup_set_self]
      · simp [h, lookup_set_ne m c.2 (Ne.symm h)]

/-- Cells that agree on an address give it their byte. -/
theorem lookup_setCells_of_mem (m : Memory) {cs : List Host.Cell} {q : Nat} {b : Byte} (hmem : (q, b) ∈ cs)
    (h : ∀ c ∈ cs, c.1 = q → c.2 = b) : Memory.lookup (Memory.setCells m cs) q = some b := by
  rw [lookup_setCells]
  cases hf : cs.reverse.find? (fun d => d.1 == q) with
  | some d =>
    have h1 : d.1 = q := by simpa using List.find?_some hf
    have h2 : d ∈ cs := by simpa using List.mem_of_find?_eq_some hf
    simp [h d h2 h1]
  | none =>
    have := List.find?_eq_none.1 hf (q, b) (by simpa using hmem)
    simp at this

/-- Writing cells at rising addresses is writing their bytes. -/
theorem setCells_zipIdx (m : Memory) (a k : Nat) (bs : List Byte) :
    Memory.setCells m ((bs.zipIdx k).map (fun p => (a + p.2, p.1))) = Memory.setBytes m (a + k) bs := by
  induction bs generalizing m k with
  | nil => rfl
  | cons b bs ih => exact ih (Memory.set m (a + k) b) (k + 1)

/-! ## Laying out and putting together -/

@[simp] theorem splitLow_length (v : Word) (n : Nat) : (splitLow v n).length = n := by
  induction n generalizing v with
  | zero => rfl
  | succ n ih => simp [splitLow, ih]

@[simp] theorem layout_length (bo : ByteOrder) (n : Nat) (v : Word) : (layout bo n v).length = n := by
  cases bo <;> simp [layout]

@[simp] theorem bytesAt_length (s : State) (a n : Nat) : (s.bytesAt a n).length = n := by
  induction n generalizing a with
  | zero => rfl
  | succ n ih => simp [State.bytesAt, ih]

theorem bytesAt_getElem (s : State) (a n : Nat) {i : Nat} (h : i < (s.bytesAt a n).length) :
    (s.bytesAt a n)[i] = s.byteAt (a + i) := by
  induction n generalizing a i with
  | zero => simp [State.bytesAt] at h
  | succ n ih =>
    cases i with
    | zero => rfl
    | succ i => simp [State.bytesAt, ih, Nat.add_assoc, Nat.add_comm 1]

theorem splitLow_getElem (v : Word) (n : Nat) {i : Nat} (h : i < (splitLow v n).length) :
    (splitLow v n)[i] = v.extractLsb' (8 * i) 8 := by
  induction n generalizing v i with
  | zero => simp [splitLow] at h
  | succ n ih =>
    cases i with
    | zero => simp only [splitLow, List.getElem_cons_zero]; ext k hk; simp
    | succ i =>
      simp only [splitLow, List.getElem_cons_succ, ih]
      ext k hk
      simp only [BitVec.getElem_extractLsb', BitVec.getLsbD_ushiftRight]
      congr 1; omega

/-! ## The state's memory -/

theorem store_wf {s : State} {addr : Word} {n : Nat} (v : Word) (h : Memory.wf s.mem)
    (ha : addr.toNat + n ≤ 2 ^ 64) : Memory.wf (s.store addr n v).mem :=
  setBytes_wf _ h (by simpa using ha)

theorem store_byteAt_outside (s : State) (addr : Word) (n : Nat) (v : Word) {q : Nat}
    (h : q < addr.toNat ∨ addr.toNat + n ≤ q) : (s.store addr n v).byteAt q = s.byteAt q := by
  have : Memory.lookup (s.store addr n v).mem q = Memory.lookup s.mem q :=
    lookup_setBytes_outside _ _ _ (by simpa using h)
  simp [State.byteAt, this]

theorem store_byteAt_inside (s : State) (addr : Word) (n : Nat) (v : Word) {i : Nat} (h : i < n) :
    (s.store addr n v).byteAt (addr.toNat + i) =
      (layout s.cfg.byteOrder n v)[i]'(by simpa using h) := by
  have : Memory.lookup (s.store addr n v).mem (addr.toNat + i) = some _ :=
    lookup_setBytes_inside s.mem addr.toNat (layout s.cfg.byteOrder n v) (by simpa using h)
  simp [State.byteAt, this]

theorem bytesAt_congr {s t : State} {a n : Nat} (h : ∀ i < n, s.byteAt (a + i) = t.byteAt (a + i)) :
    s.bytesAt a n = t.bytesAt a n :=
  List.ext_getElem (by simp) fun i h1 _ => by
    simp only [bytesAt_getElem]; exact h i (by simpa using h1)

theorem filter_below {c : Config} (p : Nat → Bool) (hp : ∀ a, p a = true → inSomeRegion c a = true)
    (cs : List Host.Cell) : ∀ d ∈ cs.filter (fun d => p d.1), d.1 < 2 ^ 64 := by
  intro d hd
  have := hp _ (List.mem_filter.1 hd).2
  simp only [inSomeRegion, Bool.and_eq_true, decide_eq_true_eq] at this
  exact this.1

theorem envWrite_wf {s : State} (cells : List Host.Cell) (h : Memory.wf s.mem) :
    Memory.wf (envWrite s cells).mem :=
  setCells_wf _ h (filter_below (c := s.cfg) (inSharedRegion s.cfg)
    (fun a ha => by simp only [inSharedRegion, Bool.and_eq_true] at ha; exact ha.1) cells)

theorem envWrites_wf {s : State} (moves : List (List Host.Cell)) (h : Memory.wf s.mem) :
    Memory.wf (envWrites s moves).mem := by
  induction moves generalizing s with
  | nil => exact h
  | cons move moves ih => exact ih (envWrite_wf move h)

theorem betweenSteps_wf {s : State} (h : Memory.wf s.mem) : Memory.wf s.betweenSteps.mem := by
  unfold State.betweenSteps
  split
  · exact h
  · exact envWrite_wf _ h

theorem applyHelper_wf {s : State} (a : HelperAnswer) (h : Memory.wf s.mem) :
    Memory.wf (applyHelper s a).mem := by
  simp only [applyHelper, clobber_mem, write_mem]
  exact setCells_wf _ h (filter_below (c := s.cfg) (inSomeRegion s.cfg) (fun _ ha => ha) _)

theorem reset_wf : Memory.wf State.reset.mem := by decide

/-! ## The environment's moves -/

/-- Reading after environment moves: the last byte they wrote there, where they may write, counts (rule R74). -/
theorem envWrites_lookup (s : State) (moves : List (List Host.Cell)) (q : Nat) :
    Memory.lookup (envWrites s moves).mem q = (envLast s.cfg moves q).or (Memory.lookup s.mem q) := by
  induction moves generalizing s with
  | nil => simp [envLast]
  | cons move moves ih =>
    rw [envWrites_cons, ih, envWrite_cfg]
    show (envLast s.cfg moves q).or
      (Memory.lookup (Memory.setCells s.mem (move.filter (fun c => inSharedRegion s.cfg c.1))) q) = _
    rw [lookup_setCells]
    unfold envLast
    by_cases h : inSharedRegion s.cfg q = true
    · have e : (move.filter (fun c => inSharedRegion s.cfg c.1)).reverse.find? (fun d => d.1 == q) =
          move.reverse.find? (fun d => d.1 == q) := by
        rw [← List.filter_reverse, List.find?_filter]
        congr 1
        funext d
        by_cases e : d.1 = q <;> simp [e, h]
      simp only [h, if_true, e, List.flatten_cons, List.reverse_append, List.find?_append, Option.map_or,
        Option.or_assoc]
    · have e : (move.filter (fun c => inSharedRegion s.cfg c.1)).reverse.find? (fun d => d.1 == q) = none := by
        rw [List.find?_eq_none]
        intro d hd hq
        rw [List.mem_reverse, List.mem_filter] at hd
        rw [beq_iff_eq] at hq
        subst hq
        exact h hd.2
      simp [h, e]

theorem envWrites_byteAt (s : State) (moves : List (List Host.Cell)) (q : Nat) :
    (envWrites s moves).byteAt q = (envLast s.cfg moves q).getD (s.byteAt q) := by
  simp only [State.byteAt, envWrites_lookup, envWrites_draws, envWrites_cfg]
  cases envLast s.cfg moves q <;> simp

@[simp] theorem envLast_nil (c : Config) (q : Nat) : envLast c [] q = none := by simp [envLast]

theorem envLast_of_not_shared {c : Config} {q : Nat} (moves : List (List Host.Cell)) (h : inSharedRegion c q = false) :
    envLast c moves q = none := by simp [envLast, h]

/-- Environment moves touch only bytes of shared regions. -/
theorem envWrites_lookup_of_not_shared (s : State) (moves : List (List Host.Cell)) {q : Nat}
    (h : inSharedRegion s.cfg q = false) : Memory.lookup (envWrites s moves).mem q = Memory.lookup s.mem q := by
  simp [envWrites_lookup, envLast_of_not_shared moves h]

/-- Between steps the environment touches only bytes of shared regions. -/
theorem betweenSteps_lookup (s : State) {q : Nat} (h : inSharedRegion s.cfg q = false) :
    Memory.lookup s.betweenSteps.mem q = Memory.lookup s.mem q := by
  unfold State.betweenSteps
  split
  · rfl
  · next e _ _ => exact envWrites_lookup_of_not_shared s [e.before] h

/-- A byte whose reads are no draws reads the same in two states that list the same there, whatever their steps
(rule R72). -/
theorem byteAt_eq_of_not_drawn {s t : State} {q : Nat} (hc : t.cfg = s.cfg)
    (hl : Memory.lookup t.mem q = Memory.lookup s.mem q) (hd : isDrawn s.cfg q = false) : t.byteAt q = s.byteAt q := by
  simp [State.byteAt, unwrittenByte, hc, hl, hd]

theorem not_shared_of_not_drawn {c : Config} {q : Nat} (h : isDrawn c q = false) : inSharedRegion c q = false := by
  simp only [isDrawn, Bool.or_eq_false_iff] at h
  exact h.2

/-- From one step to the next a byte whose reads are no draws keeps what it reads as (rule R72). -/
theorem betweenSteps_byteAt (s : State) {q : Nat} (h : isDrawn s.cfg q = false) :
    s.betweenSteps.byteAt q = s.byteAt q :=
  byteAt_eq_of_not_drawn (betweenSteps_cfg s) (betweenSteps_lookup s (not_shared_of_not_drawn h)) h

/-! ## Plain accesses, interleaved with those moves -/

theorem accessTime_le (s : State) (m k : Nat) : accessTime s m k ≤ m := Nat.min_le_right _ _

/-- Without moves a plain load takes the bytes as they are (rule R71: "trivially atomic"). -/
theorem loadThrough_nil (s : State) (addr : Word) (n : Nat) : loadThrough s [] addr n = s.load addr n := by
  unfold loadThrough State.load
  congr 1
  exact List.ext_getElem (by simp) fun i h1 h2 => by simp [bytesAt_getElem]

/-- Without moves a plain store replaces the bytes of the access. -/
theorem storeThrough_nil (s : State) (addr : Word) (n : Nat) (v : Word) :
    storeThrough s [] addr n v = s.store addr n v := by
  have all : dueCells s 0 addr.toNat (layout s.cfg.byteOrder n v) 0 =
      ((layout s.cfg.byteOrder n v).zipIdx 0).map (fun p => (addr.toNat + p.2, p.1)) := by
    simp [dueCells, accessTime]
  simp [storeThrough, interleave, storeDue, State.store, all, setCells_zipIdx]

theorem mem_dueCells {s : State} {m addr j : Nat} {bs : List Byte} {c : Host.Cell}
    (h : c ∈ dueCells s m addr bs j) : ∃ k, ∃ hk : k < bs.length, accessTime s m k = j ∧ c = (addr + k, bs[k]) := by
  simp only [dueCells, List.mem_map, List.mem_filter] at h
  obtain ⟨p, ⟨hp, ht⟩, rfl⟩ := h
  obtain ⟨h1, h2⟩ := List.mem_zipIdx' hp
  exact ⟨p.2, h1, by simpa using ht, by rw [h2]⟩

/-- A byte of the store is written when its access comes and at no other time. -/
theorem storeDue_lookup (s : State) (m addr : Nat) (bs : List Byte) (t : State) (j : Nat) {k : Nat}
    (hk : k < bs.length) : Memory.lookup (storeDue s m addr bs t j).mem (addr + k) =
      if accessTime s m k = j then some bs[k] else Memory.lookup t.mem (addr + k) := by
  split
  · next h =>
    refine lookup_setCells_of_mem _ ?_ fun c hc e => ?_
    · simp only [dueCells, List.mem_map, List.mem_filter]
      exact ⟨(bs[k], k), ⟨List.mem_zipIdx_iff_getElem?.2 (by simp [hk]), by simpa using h⟩, rfl⟩
    · obtain ⟨i, hi, -, rfl⟩ := mem_dueCells hc
      obtain rfl : i = k := by simpa using e
      rfl
  · next h =>
    refine lookup_setCells_of_not_mem _ _ fun c hc e => ?_
    obtain ⟨i, hi, ht, rfl⟩ := mem_dueCells hc
    obtain rfl : i = k := by simpa using e
    exact h ht

theorem storeDue_lookup_outside (s : State) (m addr : Nat) (bs : List Byte) (t : State) (j : Nat) {q : Nat}
    (h : q < addr ∨ addr + bs.length ≤ q) :
    Memory.lookup (storeDue s m addr bs t j).mem q = Memory.lookup t.mem q :=
  lookup_setCells_of_not_mem _ _ fun c hc e => by
    obtain ⟨i, hi, -, rfl⟩ := mem_dueCells hc
    simp only at e
    omega

theorem envWrites_lookup_congr {t u : State} (moves : List (List Host.Cell)) {q : Nat} (hc : t.cfg = u.cfg)
    (h : Memory.lookup t.mem q = Memory.lookup u.mem q) :
    Memory.lookup (envWrites t moves).mem q = Memory.lookup (envWrites u moves).mem q := by
  simp [envWrites_lookup, hc, h]

/-- A byte that is not accessed from time `j` on holds what the moves leave there. -/
theorem interleave_lookup_idle {due : State → Nat → State} {q : Nat} (hc : ∀ t j, (due t j).cfg = t.cfg)
    (moves : List (List Host.Cell)) (t : State) (j : Nat)
    (h : ∀ i ≥ j, ∀ t, Memory.lookup (due t i).mem q = Memory.lookup t.mem q) :
    Memory.lookup (interleave due t moves j).mem q = Memory.lookup (envWrites t moves).mem q := by
  induction moves generalizing t j with
  | nil => exact h _ (le_refl _) t
  | cons move moves ih =>
    rw [interleave, ih _ _ fun i hi => h i (by omega), ← envWrites_cons]
    exact envWrites_lookup_congr _ (hc t j) (h j (le_refl _) t)

/-- A byte that is accessed at time `time` alone holds what the moves from then on leave there of it. -/
theorem interleave_lookup_due {due : State → Nat → State} {q time : Nat} {b : Byte}
    (hc : ∀ t j, (due t j).cfg = t.cfg)
    (h : ∀ t j, Memory.lookup (due t j).mem q = if time = j then some b else Memory.lookup t.mem q)
    (moves : List (List Host.Cell)) (t : State) (j : Nat) (hj : j ≤ time) (ht : time ≤ j + moves.length) :
    Memory.lookup (interleave due t moves j).mem q = (envLast t.cfg (moves.drop (time - j)) q).or (some b) := by
  induction moves generalizing t j with
  | nil =>
    obtain rfl : time = j := by simp at ht; omega
    simp [interleave, h]
  | cons move moves ih =>
    rw [interleave]
    by_cases e : time = j
    · rw [interleave_lookup_idle hc _ _ _ fun i hi t => by rw [h, if_neg (by omega)], ← envWrites_cons,
        envWrites_lookup, h, if_pos e, hc, e]
      simp
    · simp only [List.length_cons] at ht
      rw [ih _ _ (by omega) (by omega), envWrite_cfg, hc,
        show time - j = time - (j + 1) + 1 by omega, List.drop_succ_cons]

/-- The byte at place `k` of a plain store: its own byte, unless a move after its access writes there (rule R71). -/
theorem storeThrough_byteAt_inside (s : State) (moves : List (List Host.Cell)) (addr : Word) (n : Nat) (v : Word)
    {k : Nat} (hk : k < n) : (storeThrough s moves addr n v).byteAt (addr.toNat + k) =
      (envLast s.cfg (moves.drop (accessTime s moves.length k)) (addr.toNat + k)).getD
        ((layout s.cfg.byteOrder n v)[k]'(by simpa using hk)) := by
  have h := interleave_lookup_due (due := storeDue s moves.length addr.toNat (layout s.cfg.byteOrder n v))
    (fun _ _ => rfl)
    (fun t j => storeDue_lookup s _ _ (layout s.cfg.byteOrder n v) t j (k := k) (by simpa using hk)) moves s 0 (Nat.zero_le _)
    (by simpa using accessTime_le s _ k)
  unfold State.byteAt storeThrough
  rw [h, Nat.sub_zero]
  cases envLast s.cfg (moves.drop (accessTime s moves.length k)) (addr.toNat + k) <;> simp

/-- A byte outside a plain store holds what the moves leave there. -/
theorem storeThrough_lookup_outside (s : State) (moves : List (List Host.Cell)) (addr : Word) (n : Nat) (v : Word)
    {q : Nat} (h : q < addr.toNat ∨ addr.toNat + n ≤ q) :
    Memory.lookup (storeThrough s moves addr n v).mem q = Memory.lookup (envWrites s moves).mem q :=
  interleave_lookup_idle (due := storeDue s moves.length addr.toNat (layout s.cfg.byteOrder n v))
    (fun _ _ => rfl) moves s 0 fun i _ t => storeDue_lookup_outside s _ _ _ t i (by rwa [layout_length])

theorem storeThrough_byteAt_outside (s : State) (moves : List (List Host.Cell)) (addr : Word) (n : Nat) (v : Word)
    {q : Nat} (h : q < addr.toNat ∨ addr.toNat + n ≤ q) :
    (storeThrough s moves addr n v).byteAt q = (envLast s.cfg moves q).getD (s.byteAt q) := by
  rw [← envWrites_byteAt]
  simp [State.byteAt, storeThrough_lookup_outside s moves addr n v h]

theorem storeThrough_wf {s : State} (moves : List (List Host.Cell)) {addr : Word} {n : Nat} (v : Word)
    (h : Memory.wf s.mem) (ha : addr.toNat + n ≤ 2 ^ 64) : Memory.wf (storeThrough s moves addr n v).mem := by
  have due : ∀ t j, Memory.wf t.mem →
      Memory.wf (storeDue s moves.length addr.toNat (layout s.cfg.byteOrder n v) t j).mem := fun t j ht =>
    setCells_wf _ ht fun c hc => by
      obtain ⟨k, hk, -, rfl⟩ := mem_dueCells hc
      rw [layout_length] at hk
      simp only
      omega
  have all : ∀ (ms : List (List Host.Cell)) (t : State) (j : Nat), Memory.wf t.mem → Memory.wf
      (interleave (storeDue s moves.length addr.toNat (layout s.cfg.byteOrder n v)) t ms j).mem := by
    intro ms
    induction ms with
    | nil => exact fun t j ht => due t j ht
    | cons m ms ih => exact fun t j ht => ih _ _ (envWrite_wf _ (due t j ht))
  exact all _ _ _ h

/-! ## Helpers -/

/-- A helper call touches only bytes of regions. -/
theorem applyHelper_lookup (s : State) (a : HelperAnswer) {q : Nat} (h : inSomeRegion s.cfg q = false) :
    Memory.lookup (applyHelper s a).mem q = Memory.lookup s.mem q := by
  simp only [applyHelper, clobber_mem, write_mem]
  refine lookup_setCells_of_not_mem _ _ fun c hc e => ?_
  have := (List.mem_filter.1 hc).2
  subst e
  simp [h] at this

end Sys2Proof.Machine
end

