-- ==== Sys2Proof/Laws/Ops.lean ====
section
/-! SUPPORT. Sys2Proof/Laws/Ops.lean: for each shared operation what it can do, said once; and `Shape`, which says
once what an instruction can do (`exec_shape`). -/

namespace Sys2Proof.Machine

/-! ## Stages -/

@[simp] theorem settle_ok (s t : State) : settle s (.ok t) = .next t := rfl
@[simp] theorem settle_error (s : State) (f : Fault) : settle s (.error f) = .next (raise f s) := rfl

theorem settle_eq_next {s t : State} {r : Except Fault State} (h : settle s r = .next t) :
    r = .ok t ∨ ∃ f, r = .error f ∧ t = raise f s := by
  cases r with
  | ok u => left; simpa using h
  | error f => right; exact ⟨f, rfl, by simpa [eq_comm] using h⟩

/-! ## Registers -/

@[simp] theorem writable_iff {r : Reg} : writable r = true ↔ r ≠ 10 := by simp [writable]

theorem checkWritable_of_ne {r : Reg} (s : State) (h : r ≠ 10) : checkWritable s r = .ok () := by
  simp [checkWritable, h]

theorem checkWritable_frame (s : State) : checkWritable s 10 = .error (illegalHere s) := rfl

theorem ne_of_checkWritable {s : State} {r : Reg} {u : Unit} (h : checkWritable s r = .ok u) : r ≠ 10 := by
  rintro rfl; simp [checkWritable_frame] at h

theorem readReg_value {s : State} {pos : ReadPos} {r : Reg} {v : Word} (h : s.reg r = .value v) :
    readReg s pos r = .ok v := by simp [readReg, h]

/-! ## The program counter -/

theorem goTo_of_in {s : State} {target : Int} (h : InProgram s target) :
    goTo s target = .ok (s.setPc target.toNat) := if_pos h

theorem goTo_of_out {s : State} {target : Int} (h : ¬ InProgram s target) :
    goTo s target = .error (.pcOutOfRange s.pc target) := if_neg h

theorem goTo_eq_ok {s t : State} {target : Int} (h : goTo s target = .ok t) :
    ∃ k < s.text.length, t = s.setPc k := by
  by_cases hin : InProgram s target
  · rw [goTo_of_in hin] at h
    have := hin.1; have := hin.2
    exact ⟨target.toNat, by omega, by simpa [eq_comm] using h⟩
  · simp [goTo_of_out hin] at h

/-- An instruction that ends by going to `target` with effect `t` does what `GoesTo` says. -/
theorem goesTo_of_goTo {i : Instr} {s t : State} {target : Int} (h : exec i s = settle s (goTo t target))
    (htext : t.text = s.text) (hpc : t.pc = s.pc) : GoesTo i s t target := by
  have same : InProgram t target ↔ InProgram s target := by simp [InProgram, htext]
  refine ⟨fun hin => ?_, fun hout => ?_⟩
  · rw [h, goTo_of_in (same.2 hin)]; rfl
  · rw [h, goTo_of_out (mt same.1 hout), hpc]; rfl

/-! ## Memory accesses -/

theorem checkAccess_eq_ok {s : State} {kind : AccessKind} {addr : Word} {n : Nat} {u : Unit}
    (h : checkAccess s kind addr n = .ok u) :
    (mustAlign s.cfg kind = true → addr.toNat % n = 0) ∧ addr.toNat + n ≤ 2 ^ 64 ∧
      ∃ g ∈ s.cfg.allRegions, g.containsRange addr.toNat n = true ∧ g.permits kind = true := by
  unfold checkAccess at h
  split at h
  · simp at h
  · next hal =>
    split at h
    · simp at h
    · next hw =>
      split at h
      · simp at h
      · next g hg =>
        split at h
        · next hp =>
          refine ⟨fun hm => ?_, by omega, g, List.mem_of_find?_eq_some hg, by
            simpa using List.find?_some (p := fun g : Region => g.containsRange addr.toNat n) hg, hp⟩
          simpa [hm] using hal
        · simp at h

theorem memRead_eq_ok {s : State} {addr : Word} {n : Nat} {p : Word × State} (h : memRead s addr n = .ok p) :
    checkAccess s .read addr n = .ok () ∧ p.1 = loadThrough s (movesWithin s addr n) addr n ∧
      p.2 = envWrites s (movesWithin s addr n) := by
  obtain ⟨u, h1, h2⟩ := bind_eq_ok.1 h
  obtain rfl := Except.ok.inj h2
  exact ⟨h1, rfl, rfl⟩

theorem memWrite_eq_ok {s t : State} {addr : Word} {n : Nat} {v : Word} (h : memWrite s addr n v = .ok t) :
    checkAccess s .write addr n = .ok () ∧ t = storeThrough s (movesWithin s addr n) addr n v := by
  obtain ⟨u, h1, h2⟩ := bind_eq_ok.1 h
  exact ⟨h1, by simpa [eq_comm] using h2⟩

/-- A plain access to a region that is not shared has no environment move within it (rule R71). -/
theorem movesWithin_of_private {s : State} {addr : Word} {n : Nat} (h : sharedAccess s addr n = false) :
    movesWithin s addr n = [] := by simp [movesWithin, h]

theorem movesWithin_of_shared {s : State} {addr : Word} {n : Nat} (h : sharedAccess s addr n = true) :
    movesWithin s addr n = s.during := by simp [movesWithin, h]

theorem atomicRMW_eq_ok {s : State} {addr : Word} {n : Nat} {f : Word → Option Word} {p : Word × State}
    (h : atomicRMW s addr n f = .ok p) :
    checkAccess s .atomic addr n = .ok () ∧ p.1 = s.load addr n ∧
      ((∃ v, f (s.load addr n) = some v ∧ p.2 = s.store addr n v) ∨ (f (s.load addr n) = none ∧ p.2 = s)) := by
  obtain ⟨u, h1, h2⟩ := bind_eq_ok.1 h
  refine ⟨h1, ?_⟩
  simp only at h2
  split at h2
  · next v hv => obtain rfl := Except.ok.inj h2; exact ⟨rfl, .inl ⟨v, hv, rfl⟩⟩
  · next hv => obtain rfl := Except.ok.inj h2; exact ⟨rfl, .inr ⟨hv, rfl⟩⟩

/-! ## What an instruction can do -/

/-- All that executing `i` at `s` can leave: a raised fault; a register written; a jump; a plain load or store, with
the environment's moves within it; bytes stored by an atomic, with or without a register written; a helper's effect; a frame pushed or popped; the run exited. Where the instruction goes
on, the new `pc` is a slot of the program. -/
inductive Shape (i : Instr) (s : State) : State → Prop where
  | raised (f : Fault) : Shape i s (raise f s)
  | wrote (d : Reg) (v : Word) (k : Nat) : d ≠ 10 → d ∈ i.writes → k < s.text.length →
      Shape i s ((s.write d v).setPc k)
  | jumped (k : Nat) : k < s.text.length → Shape i s (s.setPc k)
  | loaded (b : Reg) (off : BitVec 16) (n : Nat) (base : Word) (d : Reg) (v : Word) (k : Nat) :
      i.plainAccess = some (.src, b, off, n) → readReg s .src b = .ok base →
      checkAccess s .read (effectiveAddr base off) n = .ok () → d ≠ 10 → d ∈ i.writes → k < s.text.length →
      Shape i s (((envWrites s (movesWithin s (effectiveAddr base off) n)).write d v).setPc k)
  | storedPlain (b : Reg) (off : BitVec 16) (n : Nat) (base v : Word) (k : Nat) :
      i.stores = some (b, off, n) → i.plainAccess = some (.dst, b, off, n) → readReg s .dst b = .ok base →
      checkAccess s .write (effectiveAddr base off) n = .ok () → k < s.text.length →
      Shape i s ((storeThrough s (movesWithin s (effectiveAddr base off) n) (effectiveAddr base off) n v).setPc k)
  | stored (b : Reg) (off : BitVec 16) (n : Nat) (base v : Word) (k : Nat) :
      i.stores = some (b, off, n) → readReg s .dst b = .ok base →
      checkAccess s .atomic (effectiveAddr base off) n = .ok () → k < s.text.length →
      Shape i s ((s.store (effectiveAddr base off) n v).setPc k)
  | storedWrote (b : Reg) (off : BitVec 16) (n : Nat) (base v : Word) (d : Reg) (old : Word) (k : Nat) :
      i.stores = some (b, off, n) → readReg s .dst b = .ok base →
      checkAccess s .atomic (effectiveAddr base off) n = .ok () → d ≠ 10 → d ∈ i.writes → k < s.text.length →
      Shape i s (((s.store (effectiveAddr base off) n v).write d old).setPc k)
  | helped (a : HelperAnswer) (k : Nat) : i.isHelperCall = true → k < s.text.length →
      Shape i s ((applyHelper s a).setPc k)
  | pushed (off : BitVec 16) (imm : BitVec 32) (fp : Word) (k : Nat) : i = .callLocal off imm →
      readReg s .frame 10 = .ok fp → atDepthLimit s = false → k < s.text.length →
      Shape i s ((pushFrame s fp).setPc k)
  | popped (fr : Frame) (rest : List Frame) : i = .exit → s.callStack = fr :: rest → fr.retPc < s.text.length →
      Shape i s ((popFrame s fr rest).setPc fr.retPc)
  | exited (v : Word) : i = .exit → s.callStack = [] → readReg s .r0 0 = .ok v →
      Shape i s { s with status := .exited v }

theorem shape_of_settle {i : Instr} {s t : State} {r : Except Fault State} (h : settle s r = .next t)
    (hok : ∀ u, r = .ok u → Shape i s u) : Shape i s t := by
  rcases settle_eq_next h with h | ⟨f, -, rfl⟩
  · exact hok t h
  · exact .raised f

theorem shape_writeBack {i : Instr} {s u : State} {d : Reg} {v : Word} {x : Unit} (hd : d ∈ i.writes)
    (hw : checkWritable s d = .ok x) (h : writeBack s d v = .ok u) : Shape i s u := by
  obtain ⟨k, hk, rfl⟩ := goTo_eq_ok h
  exact .wrote d v k (ne_of_checkWritable hw) hd hk

theorem shape_advance {i : Instr} {s u : State} {n : Nat} (h : advance s n = .ok u) : Shape i s u := by
  obtain ⟨k, hk, rfl⟩ := goTo_eq_ok h
  exact .jumped k hk

theorem shape_aluK64 {i : Instr} {f : AluOp 64} {d : Reg} {imm : BitVec 32} {s t : State} (hd : d ∈ i.writes)
    (h : aluK64 f d imm s = .next t) : Shape i s t :=
  shape_of_settle h fun u hu => by
    simp only [bind_eq_ok] at hu; obtain ⟨_, hw, _, -, _, -, h⟩ := hu; exact shape_writeBack hd hw h

theorem shape_aluX64 {i : Instr} {f : AluOp 64} {d r : Reg} {s t : State} (hd : d ∈ i.writes)
    (h : aluX64 f d r s = .next t) : Shape i s t :=
  shape_of_settle h fun u hu => by
    simp only [bind_eq_ok] at hu; obtain ⟨_, hw, _, -, _, -, _, -, h⟩ := hu; exact shape_writeBack hd hw h

theorem shape_aluK32 {i : Instr} {f : AluOp 32} {d : Reg} {imm : BitVec 32} {s t : State} (hd : d ∈ i.writes)
    (h : aluK32 f d imm s = .next t) : Shape i s t :=
  shape_of_settle h fun u hu => by
    simp only [bind_eq_ok] at hu; obtain ⟨_, hw, _, -, _, -, h⟩ := hu; exact shape_writeBack hd hw h

theorem shape_aluX32 {i : Instr} {f : AluOp 32} {d r : Reg} {s t : State} (hd : d ∈ i.writes)
    (h : aluX32 f d r s = .next t) : Shape i s t :=
  shape_of_settle h fun u hu => by
    simp only [bind_eq_ok] at hu; obtain ⟨_, hw, _, -, _, -, _, -, h⟩ := hu; exact shape_writeBack hd hw h

theorem shape_swapTo {i : Instr} {bo : ByteOrder} {n : Nat} {d : Reg} {s t : State} (hd : d ∈ i.writes)
    (h : swapTo bo n d s = .next t) : Shape i s t :=
  shape_of_settle h fun u hu => by
    simp only [bind_eq_ok] at hu; obtain ⟨_, hw, _, -, h⟩ := hu; exact shape_writeBack hd hw h

theorem shape_branch {i : Instr} {s u : State} {taken : Bool} {off : BitVec 16} (h : branch s taken off = .ok u) :
    Shape i s u := by
  unfold branch at h
  split at h
  · obtain ⟨k, hk, rfl⟩ := goTo_eq_ok h; exact .jumped k hk
  · exact shape_advance h

theorem shape_jccK64 {i : Instr} {c : Word → Word → Bool} {d : Reg} {imm : BitVec 32} {off : BitVec 16} {s t : State}
    (h : jccK64 c d imm off s = .next t) : Shape i s t :=
  shape_of_settle h fun u hu => by
    simp only [bind_eq_ok] at hu; obtain ⟨_, -, h⟩ := hu; exact shape_branch h

theorem shape_jccX64 {i : Instr} {c : Word → Word → Bool} {d r : Reg} {off : BitVec 16} {s t : State}
    (h : jccX64 c d r off s = .next t) : Shape i s t :=
  shape_of_settle h fun u hu => by
    simp only [bind_eq_ok] at hu; obtain ⟨_, -, _, -, h⟩ := hu; exact shape_branch h

theorem shape_jccK32 {i : Instr} {c : BitVec 32 → BitVec 32 → Bool} {d : Reg} {imm : BitVec 32} {off : BitVec 16}
    {s t : State} (h : jccK32 c d imm off s = .next t) : Shape i s t :=
  shape_of_settle h fun u hu => by
    simp only [bind_eq_ok] at hu; obtain ⟨_, -, h⟩ := hu; exact shape_branch h

theorem shape_jccX32 {i : Instr} {c : BitVec 32 → BitVec 32 → Bool} {d r : Reg} {off : BitVec 16} {s t : State}
    (h : jccX32 c d r off s = .next t) : Shape i s t :=
  shape_of_settle h fun u hu => by
    simp only [bind_eq_ok] at hu; obtain ⟨_, -, _, -, h⟩ := hu; exact shape_branch h

theorem shape_ja {i : Instr} {off : BitVec 16} {s t : State} (h : execJa off s = .next t) : Shape i s t :=
  shape_of_settle h fun u hu => by
    obtain ⟨k, hk, rfl⟩ := goTo_eq_ok hu; exact .jumped k hk

theorem shape_loadInto {i : Instr} {n : Nat} {d r : Reg} {off : BitVec 16} {s t : State} (hd : d ∈ i.writes)
    (ha : i.plainAccess = some (.src, r, off, n)) (h : loadInto n d r off s = .next t) : Shape i s t :=
  shape_of_settle h fun u hu => by
    simp only [bind_eq_ok] at hu
    obtain ⟨_, hw, base, hb, p, hp, h⟩ := hu
    obtain ⟨hc, -, e⟩ := memRead_eq_ok hp
    rw [e] at h
    obtain ⟨k, hk, rfl⟩ := goTo_eq_ok h
    exact .loaded r off n base d p.1 k ha hb hc (ne_of_checkWritable hw) hd (by simpa using hk)

theorem shape_storeImm {i : Instr} {n : Nat} {d : Reg} {off : BitVec 16} {imm : BitVec 32} {s t : State}
    (hs : i.stores = some (d, off, n)) (ha : i.plainAccess = some (.dst, d, off, n))
    (h : storeImm n d off imm s = .next t) : Shape i s t :=
  shape_of_settle h fun u hu => by
    simp only [bind_eq_ok] at hu
    obtain ⟨base, hb, w, hw, h⟩ := hu
    obtain ⟨hc, rfl⟩ := memWrite_eq_ok hw
    obtain ⟨k, hk, rfl⟩ := goTo_eq_ok h
    exact .storedPlain d off n base _ k hs ha hb hc (by simpa using hk)

theorem shape_storeReg {i : Instr} {n : Nat} {d r : Reg} {off : BitVec 16} {s t : State}
    (hs : i.stores = some (d, off, n)) (ha : i.plainAccess = some (.dst, d, off, n))
    (h : storeReg n d r off s = .next t) : Shape i s t :=
  shape_of_settle h fun u hu => by
    simp only [bind_eq_ok] at hu
    obtain ⟨base, hb, v, -, w, hw, h⟩ := hu
    obtain ⟨hc, rfl⟩ := memWrite_eq_ok hw
    obtain ⟨k, hk, rfl⟩ := goTo_eq_ok h
    exact .storedPlain d off n base _ k hs ha hb hc (by simpa using hk)

theorem shape_atomicSimple {i : Instr} {n : Nat} {f : AtomicOp} {d r : Reg} {off : BitVec 16} {s t : State}
    (hs : i.stores = some (d, off, n)) (h : atomicSimple n f d r off s = .next t) : Shape i s t :=
  shape_of_settle h fun u hu => by
    simp only [bind_eq_ok] at hu
    obtain ⟨base, hb, v, -, p, hp, h⟩ := hu
    obtain ⟨hc, -, ⟨w, -, e⟩ | ⟨hf, -⟩⟩ := atomicRMW_eq_ok hp
    · rw [e] at h
      obtain ⟨k, hk, rfl⟩ := goTo_eq_ok h
      exact .stored d off n base _ k hs hb hc hk
    · simp at hf

theorem shape_atomicFetch {i : Instr} {n : Nat} {f : AtomicOp} {d r : Reg} {off : BitVec 16} {s t : State}
    (hs : i.stores = some (d, off, n)) (hr : r ∈ i.writes) (h : atomicFetch n f d r off s = .next t) :
    Shape i s t :=
  shape_of_settle h fun u hu => by
    simp only [bind_eq_ok] at hu
    obtain ⟨_, hw, base, hb, v, -, p, hp, h⟩ := hu
    obtain ⟨hc, -, ⟨w, -, e⟩ | ⟨hf, -⟩⟩ := atomicRMW_eq_ok hp
    · rw [e] at h
      obtain ⟨k, hk, rfl⟩ := goTo_eq_ok h
      exact .storedWrote d off n base _ r _ k hs hb hc (ne_of_checkWritable hw) hr hk
    · simp at hf

theorem shape_atomicCompare {i : Instr} {n : Nat} {same : Word → Word → Bool} {d r : Reg} {off : BitVec 16}
    {s t : State} (hs : i.stores = some (d, off, n)) (h0 : (0 : Reg) ∈ i.writes)
    (h : atomicCompare n same d r off s = .next t) : Shape i s t :=
  shape_of_settle h fun u hu => by
    simp only [bind_eq_ok] at hu
    obtain ⟨base, hb, v, -, c, -, p, hp, h⟩ := hu
    obtain ⟨hc, -, ⟨w, -, e⟩ | ⟨-, e⟩⟩ := atomicRMW_eq_ok hp
    · rw [e] at h
      obtain ⟨k, hk, rfl⟩ := goTo_eq_ok h
      exact .storedWrote d off n base _ 0 _ k hs hb hc (by decide) h0 hk
    · rw [e] at h
      obtain ⟨k, hk, rfl⟩ := goTo_eq_ok h
      exact .wrote 0 _ k (by decide) h0 hk

@[simp] theorem helperAnswer_free (s : State) (space : HelperSpace) (id : Int) (args : List Word) :
    helperAnswer s space id .free args = freeAnswer s space id args := rfl

@[simp] theorem helperAnswer_computes (s : State) (space : HelperSpace) (id : Int) (args : List Word)
    (result : HelperExpr) (effects : List HelperEffect) :
    helperAnswer s space id (.computes result effects) args =
      { result := evalHelperExpr s args result, cells := effects.flatMap (effectCells s args) } := rfl

theorem helperAnswer_of_given {s : State} {space : HelperSpace} {id : Int} {args : List Word}
    {given : List (Nat × HelperAnswer)} {a : HelperAnswer} (h : given.lookup s.draws = some a) :
    helperAnswer s space id (.answers given) args = a := by simp [helperAnswer, h]

/-- The arity of a defined helper is that of its entry. -/
theorem helperArity_eq_some {c : Config} {space : HelperSpace} {id : Int} {k : Fin 6} :
    helperArity c space id = some k ↔ ∃ h, helperOf c space id = some h ∧ h.arity = k := by simp [helperArity]

theorem helperArity_eq_none {c : Config} {space : HelperSpace} {id : Int} :
    helperArity c space id = none ↔ helperOf c space id = none := by simp [helperArity]

/-- A helper call that completes has read its arguments and made the effect of the helper's answer to them. -/
theorem callHelperIn_eq_ok {space : HelperSpace} {imm : BitVec 32} {s u : State}
    (h : callHelperIn space imm s = .ok u) :
    ∃ hp args k, helperOf s.cfg space imm.toInt = some hp ∧
      readRegs s .arg (argRegs.take hp.arity.val) = .ok args ∧ k < s.text.length ∧
      u = (applyHelper s (helperAnswer s space imm.toInt hp.behaviour args)).setPc k := by
  unfold callHelperIn at h
  split at h
  · simp at h
  · next hp hh =>
    obtain ⟨args, ha, h⟩ := bind_eq_ok.1 h
    obtain ⟨k, hk, e⟩ := goTo_eq_ok h
    exact ⟨hp, args, k, hh, ha, by simpa using hk, e⟩

theorem shape_callHelperIn {i : Instr} {space : HelperSpace} {imm : BitVec 32} {s u : State}
    (hi : i.isHelperCall = true) (h : callHelperIn space imm s = .ok u) : Shape i s u := by
  obtain ⟨_, _, k, -, -, hk, rfl⟩ := callHelperIn_eq_ok h
  exact .helped _ k hi hk

theorem shape_callPlatform {imm : BitVec 32} {s t : State} (h : execCallPlatform imm s = .next t) :
    Shape (.callPlatform imm) s t :=
  shape_of_settle h fun u hu => by
    split at hu
    · exact shape_callHelperIn rfl hu
    · simp at hu

theorem shape_callLocal {off : BitVec 16} {imm : BitVec 32} {s t : State} (h : execCallLocal off imm s = .next t) :
    Shape (.callLocal off imm) s t :=
  shape_of_settle h fun u hu => by
    split at hu
    · simp at hu
    · obtain ⟨fp, hfp, hu⟩ := bind_eq_ok.1 hu
      split at hu
      · simp at hu
      · next hd =>
        obtain ⟨k, hk, rfl⟩ := goTo_eq_ok hu
        exact .pushed off imm fp k rfl hfp (by simpa using hd) (by simpa using hk)

theorem shape_exit {s t : State} (h : execExit s = .next t) : Shape .exit s t :=
  shape_of_settle h fun u hu => by
    split at hu
    · next hs =>
      obtain ⟨v, hv, hu⟩ := bind_eq_ok.1 hu
      obtain rfl := Except.ok.inj hu
      exact .exited v rfl hs hv
    · next fr rest hs =>
      by_cases hin : InProgram (popFrame s fr rest) fr.retPc
      · rw [goTo_of_in hin] at hu
        obtain rfl := Except.ok.inj hu
        have := hin.2
        simp only [popFrame_text] at this
        simpa using Shape.popped (i := .exit) fr rest rfl hs (by omega)
      · simp [goTo_of_out hin] at hu

theorem shape_mov {i : Instr} {d : Reg} {x : Except Fault Word} {g : Word → Word} {s t : State} (hd : d ∈ i.writes)
    (h : settle s (do checkWritable s d; let b ← x; writeBack s d (g b)) = .next t) : Shape i s t :=
  shape_of_settle h fun u hu => by
    simp only [bind_eq_ok] at hu; obtain ⟨_, hw, _, -, h⟩ := hu; exact shape_writeBack hd hw h

theorem shape_movImm {i : Instr} {d : Reg} {v : Word} {s t : State} (hd : d ∈ i.writes)
    (h : settle s (do checkWritable s d; writeBack s d v) = .next t) : Shape i s t :=
  shape_of_settle h fun u hu => by
    simp only [bind_eq_ok] at hu; obtain ⟨_, hw, h⟩ := hu; exact shape_writeBack hd hw h

theorem shape_wide {i : Instr} {d : Reg} {v : Word} {s u : State} {x : Unit} (hd : d ∈ i.writes)
    (hw : checkWritable s d = .ok x) (h : wideResult d v s = .ok u) : Shape i s u := by
  obtain ⟨k, hk, rfl⟩ := goTo_eq_ok h
  exact .wrote d v k (ne_of_checkWritable hw) hd hk

theorem shape_lddw {d : Reg} {imm next : BitVec 32} {s t : State} (h : execLddw d imm next s = .next t) :
    Shape (.lddw d imm next) s t :=
  shape_of_settle h fun u hu => by
    obtain ⟨_, hw, hu⟩ := bind_eq_ok.1 hu
    exact shape_wide (by simp [Instr.writes]) hw hu

theorem shape_wideAddress {i : Instr} {what : Feature} {enabled : Bool} {d : Reg} {address : Option Word}
    {s t : State} (hd : d ∈ i.writes) (h : wideAddress what enabled d address s = .next t) : Shape i s t :=
  shape_of_settle h fun u hu => by
    obtain ⟨_, hw, hu⟩ := bind_eq_ok.1 hu
    split at hu
    · exact shape_wide hd hw hu
    · simp at hu

theorem shape_legacy {i : Instr} {s t : State} (h : legacyPacket s = .next t) : Shape i s t :=
  shape_of_settle h fun u hu => by simp at hu

/-- What executing any instruction can leave. -/
theorem exec_shape {i : Instr} {s t : State} (h : exec i s = .next t) : Shape i s t := by
  cases i with
  | add32Imm dst imm => exact shape_aluK32 (by simp [Instr.writes]) h
  | add32Reg dst src => exact shape_aluX32 (by simp [Instr.writes]) h
  | add64Imm dst imm => exact shape_aluK64 (by simp [Instr.writes]) h
  | add64Reg dst src => exact shape_aluX64 (by simp [Instr.writes]) h
  | sub32Imm dst imm => exact shape_aluK32 (by simp [Instr.writes]) h
  | sub32Reg dst src => exact shape_aluX32 (by simp [Instr.writes]) h
  | sub64Imm dst imm => exact shape_aluK64 (by simp [Instr.writes]) h
  | sub64Reg dst src => exact shape_aluX64 (by simp [Instr.writes]) h
  | mul32Imm dst imm => exact shape_aluK32 (by simp [Instr.writes]) h
  | mul32Reg dst src => exact shape_aluX32 (by simp [Instr.writes]) h
  | mul64Imm dst imm => exact shape_aluK64 (by simp [Instr.writes]) h
  | mul64Reg dst src => exact shape_aluX64 (by simp [Instr.writes]) h
  | div32Imm dst imm => exact shape_aluK32 (by simp [Instr.writes]) h
  | div32Reg dst src => exact shape_aluX32 (by simp [Instr.writes]) h
  | div64Imm dst imm => exact shape_aluK64 (by simp [Instr.writes]) h
  | div64Reg dst src => exact shape_aluX64 (by simp [Instr.writes]) h
  | or32Imm dst imm => exact shape_aluK32 (by simp [Instr.writes]) h
  | or32Reg dst src => exact shape_aluX32 (by simp [Instr.writes]) h
  | or64Imm dst imm => exact shape_aluK64 (by simp [Instr.writes]) h
  | or64Reg dst src => exact shape_aluX64 (by simp [Instr.writes]) h
  | and32Imm dst imm => exact shape_aluK32 (by simp [Instr.writes]) h
  | and32Reg dst src => exact shape_aluX32 (by simp [Instr.writes]) h
  | and64Imm dst imm => exact shape_aluK64 (by simp [Instr.writes]) h
  | and64Reg dst src => exact shape_aluX64 (by simp [Instr.writes]) h
  | lsh32Imm dst imm => exact shape_aluK32 (by simp [Instr.writes]) h
  | lsh32Reg dst src => exact shape_aluX32 (by simp [Instr.writes]) h
  | lsh64Imm dst imm => exact shape_aluK64 (by simp [Instr.writes]) h
  | lsh64Reg dst src => exact shape_aluX64 (by simp [Instr.writes]) h
  | rsh32Imm dst imm => exact shape_aluK32 (by simp [Instr.writes]) h
  | rsh32Reg dst src => exact shape_aluX32 (by simp [Instr.writes]) h
  | rsh64Imm dst imm => exact shape_aluK64 (by simp [Instr.writes]) h
  | rsh64Reg dst src => exact shape_aluX64 (by simp [Instr.writes]) h
  | neg32 dst => exact shape_mov (g := fun a => zext32 (opNeg (low32 a))) (by simp [Instr.writes]) h
  | neg64 dst => exact shape_mov (g := opNeg) (by simp [Instr.writes]) h
  | mod32Imm dst imm => exact shape_aluK32 (by simp [Instr.writes]) h
  | mod32Reg dst src => exact shape_aluX32 (by simp [Instr.writes]) h
  | mod64Imm dst imm => exact shape_aluK64 (by simp [Instr.writes]) h
  | mod64Reg dst src => exact shape_aluX64 (by simp [Instr.writes]) h
  | xor32Imm dst imm => exact shape_aluK32 (by simp [Instr.writes]) h
  | xor32Reg dst src => exact shape_aluX32 (by simp [Instr.writes]) h
  | xor64Imm dst imm => exact shape_aluK64 (by simp [Instr.writes]) h
  | xor64Reg dst src => exact shape_aluX64 (by simp [Instr.writes]) h
  | mov32Imm dst imm => exact shape_movImm (by simp [Instr.writes]) h
  | mov32Reg dst src => exact shape_mov (g := fun b => zext32 (low32 b)) (by simp [Instr.writes]) h
  | mov64Imm dst imm => exact shape_movImm (by simp [Instr.writes]) h
  | mov64Reg dst src => exact shape_mov (g := id) (by simp [Instr.writes]) h
  | arsh32Imm dst imm => exact shape_aluK32 (by simp [Instr.writes]) h
  | arsh32Reg dst src => exact shape_aluX32 (by simp [Instr.writes]) h
  | arsh64Imm dst imm => exact shape_aluK64 (by simp [Instr.writes]) h
  | arsh64Reg dst src => exact shape_aluX64 (by simp [Instr.writes]) h
  | le16 dst => exact shape_swapTo (by simp [Instr.writes]) h
  | le32 dst => exact shape_swapTo (by simp [Instr.writes]) h
  | le64 dst => exact shape_swapTo (by simp [Instr.writes]) h
  | be16 dst => exact shape_swapTo (by simp [Instr.writes]) h
  | be32 dst => exact shape_swapTo (by simp [Instr.writes]) h
  | be64 dst => exact shape_swapTo (by simp [Instr.writes]) h
  | ja off => exact shape_ja h
  | jeq64Imm dst imm off => exact shape_jccK64 h
  | jeq64Reg dst src off => exact shape_jccX64 h
  | jeq32Imm dst imm off => exact shape_jccK32 h
  | jeq32Reg dst src off => exact shape_jccX32 h
  | jgt64Imm dst imm off => exact shape_jccK64 h
  | jgt64Reg dst src off => exact shape_jccX64 h
  | jgt32Imm dst imm off => exact shape_jccK32 h
  | jgt32Reg dst src off => exact shape_jccX32 h
  | jge64Imm dst imm off => exact shape_jccK64 h
  | jge64Reg dst src off => exact shape_jccX64 h
  | jge32Imm dst imm off => exact shape_jccK32 h
  | jge32Reg dst src off => exact shape_jccX32 h
  | jset64Imm dst imm off => exact shape_jccK64 h
  | jset64Reg dst src off => exact shape_jccX64 h
  | jset32Imm dst imm off => exact shape_jccK32 h
  | jset32Reg dst src off => exact shape_jccX32 h
  | jne64Imm dst imm off => exact shape_jccK64 h
  | jne64Reg dst src off => exact shape_jccX64 h
  | jne32Imm dst imm off => exact shape_jccK32 h
  | jne32Reg dst src off => exact shape_jccX32 h
  | jsgt64Imm dst imm off => exact shape_jccK64 h
  | jsgt64Reg dst src off => exact shape_jccX64 h
  | jsgt32Imm dst imm off => exact shape_jccK32 h
  | jsgt32Reg dst src off => exact shape_jccX32 h
  | jsge64Imm dst imm off => exact shape_jccK64 h
  | jsge64Reg dst src off => exact shape_jccX64 h
  | jsge32Imm dst imm off => exact shape_jccK32 h
  | jsge32Reg dst src off => exact shape_jccX32 h
  | jlt64Imm dst imm off => exact shape_jccK64 h
  | jlt64Reg dst src off => exact shape_jccX64 h
  | jlt32Imm dst imm off => exact shape_jccK32 h
  | jlt32Reg dst src off => exact shape_jccX32 h
  | jle64Imm dst imm off => exact shape_jccK64 h
  | jle64Reg dst src off => exact shape_jccX64 h
  | jle32Imm dst imm off => exact shape_jccK32 h
  | jle32Reg dst src off => exact shape_jccX32 h
  | jslt64Imm dst imm off => exact shape_jccK64 h
  | jslt64Reg dst src off => exact shape_jccX64 h
  | jslt32Imm dst imm off => exact shape_jccK32 h
  | jslt32Reg dst src off => exact shape_jccX32 h
  | jsle64Imm dst imm off => exact shape_jccK64 h
  | jsle64Reg dst src off => exact shape_jccX64 h
  | jsle32Imm dst imm off => exact shape_jccK32 h
  | jsle32Reg dst src off => exact shape_jccX32 h
  | callHelper imm => exact shape_of_settle h fun _ hu => shape_callHelperIn rfl hu
  | callLocal off imm => exact shape_callLocal h
  | callPlatform imm => exact shape_callPlatform h
  | exit => exact shape_exit h
  | ldxw dst src off => exact shape_loadInto (by simp [Instr.writes]) rfl h
  | ldxh dst src off => exact shape_loadInto (by simp [Instr.writes]) rfl h
  | ldxb dst src off => exact shape_loadInto (by simp [Instr.writes]) rfl h
  | ldxdw dst src off => exact shape_loadInto (by simp [Instr.writes]) rfl h
  | stw dst off imm => exact shape_storeImm rfl rfl h
  | sth dst off imm => exact shape_storeImm rfl rfl h
  | stb dst off imm => exact shape_storeImm rfl rfl h
  | stdw dst off imm => exact shape_storeImm rfl rfl h
  | stxw dst src off => exact shape_storeReg rfl rfl h
  | stxh dst src off => exact shape_storeReg rfl rfl h
  | stxb dst src off => exact shape_storeReg rfl rfl h
  | stxdw dst src off => exact shape_storeReg rfl rfl h
  | atomicAdd32 dst src off => exact shape_atomicSimple rfl h
  | atomicFetchAdd32 dst src off => exact shape_atomicFetch rfl (by simp [Instr.writes]) h
  | atomicOr32 dst src off => exact shape_atomicSimple rfl h
  | atomicFetchOr32 dst src off => exact shape_atomicFetch rfl (by simp [Instr.writes]) h
  | atomicAnd32 dst src off => exact shape_atomicSimple rfl h
  | atomicFetchAnd32 dst src off => exact shape_atomicFetch rfl (by simp [Instr.writes]) h
  | atomicXor32 dst src off => exact shape_atomicSimple rfl h
  | atomicFetchXor32 dst src off => exact shape_atomicFetch rfl (by simp [Instr.writes]) h
  | atomicXchg32 dst src off => exact shape_atomicFetch rfl (by simp [Instr.writes]) h
  | atomicCmpxchg32 dst src off => exact shape_atomicCompare rfl (by simp [Instr.writes]) h
  | atomicAdd64 dst src off => exact shape_atomicSimple rfl h
  | atomicFetchAdd64 dst src off => exact shape_atomicFetch rfl (by simp [Instr.writes]) h
  | atomicOr64 dst src off => exact shape_atomicSimple rfl h
  | atomicFetchOr64 dst src off => exact shape_atomicFetch rfl (by simp [Instr.writes]) h
  | atomicAnd64 dst src off => exact shape_atomicSimple rfl h
  | atomicFetchAnd64 dst src off => exact shape_atomicFetch rfl (by simp [Instr.writes]) h
  | atomicXor64 dst src off => exact shape_atomicSimple rfl h
  | atomicFetchXor64 dst src off => exact shape_atomicFetch rfl (by simp [Instr.writes]) h
  | atomicXchg64 dst src off => exact shape_atomicFetch rfl (by simp [Instr.writes]) h
  | atomicCmpxchg64 dst src off => exact shape_atomicCompare rfl (by simp [Instr.writes]) h
  | lddw dst imm nextImm => exact shape_lddw h
  | ldMapFd dst imm => exact shape_wideAddress (by simp [Instr.writes]) h
  | ldMapFdValue dst imm nextImm => exact shape_wideAddress (by simp [Instr.writes]) h
  | ldVarAddr dst imm => exact shape_wideAddress (by simp [Instr.writes]) h
  | ldCodeAddr dst imm => exact shape_wideAddress (by simp [Instr.writes]) h
  | ldMapIdx dst imm => exact shape_wideAddress (by simp [Instr.writes]) h
  | ldMapIdxValue dst imm nextImm => exact shape_wideAddress (by simp [Instr.writes]) h
  | ldabsw rest => exact shape_legacy h
  | ldabsh rest => exact shape_legacy h
  | ldabsb rest => exact shape_legacy h
  | ldabsdw rest => exact shape_legacy h
  | ldindw rest => exact shape_legacy h
  | ldindh rest => exact shape_legacy h
  | ldindb rest => exact shape_legacy h
  | ldinddw rest => exact shape_legacy h

end Sys2Proof.Machine
end

