-- ==== Sys2Proof/Laws/PerInstr.lean ====
section
/-! SUPPORT. Sys2Proof/Laws/PerInstr.lean: the family `Encoding`, stated of an instruction as syntax and proved for
each constructor: its first word has a defined opcode, and a second word follows exactly when that opcode is 0x18
(rules R98, R110). -/

namespace Sys2Proof.Laws.Encoding

/-- The first word's opcode is defined (rule R110) and decides the length (rule R98). -/
def Statement (i : Instr) : Prop :=
  ∃ w rest, encode i = w :: rest ∧ (Fields.ofWord w).opcode.toNat ∈ definedOpcodes ∧
    rest.length = if (Fields.ofWord w).opcode = 0x18 then 1 else 0

/-- An instruction of one slot. -/
theorem one {i : Instr} {w : Word} (op : BitVec 8) (hi : encode i = [w]) (hw : (Fields.ofWord w).opcode = op)
    (hd : op.toNat ∈ definedOpcodes) (hn : op ≠ 0x18) : Statement i :=
  ⟨w, [], hi, by rw [hw]; exact hd, by rw [hw, if_neg hn]; rfl⟩

/-- An instruction of two slots. -/
theorem two {i : Instr} {w v : Word} (hi : encode i = [w, v]) (hw : (Fields.ofWord w).opcode = 0x18) : Statement i :=
  ⟨w, [v], hi, by rw [hw]; decide, by rw [hw, if_pos rfl]; rfl⟩

/-- The opcode of a word put together from fields. -/
theorem opcode_slotWord (op : BitVec 8) (d r : BitVec 4) (off : BitVec 16) (imm : BitVec 32) :
    (Fields.ofWord (slotWord op d r off imm)).opcode = op := by simp

theorem add32Imm (dst : Reg) (imm : BitVec 32) : Statement (.add32Imm dst imm) :=
  one 0x04 rfl (opcode_slotWord _ _ _ _ _) (by decide) (by decide)
theorem add32Reg (dst src : Reg) : Statement (.add32Reg dst src) :=
  one 0x0c rfl (opcode_slotWord _ _ _ _ _) (by decide) (by decide)
theorem add64Imm (dst : Reg) (imm : BitVec 32) : Statement (.add64Imm dst imm) :=
  one 0x07 rfl (opcode_slotWord _ _ _ _ _) (by decide) (by decide)
theorem add64Reg (dst src : Reg) : Statement (.add64Reg dst src) :=
  one 0x0f rfl (opcode_slotWord _ _ _ _ _) (by decide) (by decide)
theorem sub32Imm (dst : Reg) (imm : BitVec 32) : Statement (.sub32Imm dst imm) :=
  one 0x14 rfl (opcode_slotWord _ _ _ _ _) (by decide) (by decide)
theorem sub32Reg (dst src : Reg) : Statement (.sub32Reg dst src) :=
  one 0x1c rfl (opcode_slotWord _ _ _ _ _) (by decide) (by decide)
theorem sub64Imm (dst : Reg) (imm : BitVec 32) : Statement (.sub64Imm dst imm) :=
  one 0x17 rfl (opcode_slotWord _ _ _ _ _) (by decide) (by decide)
theorem sub64Reg (dst src : Reg) : Statement (.sub64Reg dst src) :=
  one 0x1f rfl (opcode_slotWord _ _ _ _ _) (by decide) (by decide)
theorem mul32Imm (dst : Reg) (imm : BitVec 32) : Statement (.mul32Imm dst imm) :=
  one 0x24 rfl (opcode_slotWord _ _ _ _ _) (by decide) (by decide)
theorem mul32Reg (dst src : Reg) : Statement (.mul32Reg dst src) :=
  one 0x2c rfl (opcode_slotWord _ _ _ _ _) (by decide) (by decide)
theorem mul64Imm (dst : Reg) (imm : BitVec 32) : Statement (.mul64Imm dst imm) :=
  one 0x27 rfl (opcode_slotWord _ _ _ _ _) (by decide) (by decide)
theorem mul64Reg (dst src : Reg) : Statement (.mul64Reg dst src) :=
  one 0x2f rfl (opcode_slotWord _ _ _ _ _) (by decide) (by decide)
theorem div32Imm (dst : Reg) (imm : BitVec 32) : Statement (.div32Imm dst imm) :=
  one 0x34 rfl (opcode_slotWord _ _ _ _ _) (by decide) (by decide)
theorem div32Reg (dst src : Reg) : Statement (.div32Reg dst src) :=
  one 0x3c rfl (opcode_slotWord _ _ _ _ _) (by decide) (by decide)
theorem div64Imm (dst : Reg) (imm : BitVec 32) : Statement (.div64Imm dst imm) :=
  one 0x37 rfl (opcode_slotWord _ _ _ _ _) (by decide) (by decide)
theorem div64Reg (dst src : Reg) : Statement (.div64Reg dst src) :=
  one 0x3f rfl (opcode_slotWord _ _ _ _ _) (by decide) (by decide)
theorem or32Imm (dst : Reg) (imm : BitVec 32) : Statement (.or32Imm dst imm) :=
  one 0x44 rfl (opcode_slotWord _ _ _ _ _) (by decide) (by decide)
theorem or32Reg (dst src : Reg) : Statement (.or32Reg dst src) :=
  one 0x4c rfl (opcode_slotWord _ _ _ _ _) (by decide) (by decide)
theorem or64Imm (dst : Reg) (imm : BitVec 32) : Statement (.or64Imm dst imm) :=
  one 0x47 rfl (opcode_slotWord _ _ _ _ _) (by decide) (by decide)
theorem or64Reg (dst src : Reg) : Statement (.or64Reg dst src) :=
  one 0x4f rfl (opcode_slotWord _ _ _ _ _) (by decide) (by decide)
theorem and32Imm (dst : Reg) (imm : BitVec 32) : Statement (.and32Imm dst imm) :=
  one 0x54 rfl (opcode_slotWord _ _ _ _ _) (by decide) (by decide)
theorem and32Reg (dst src : Reg) : Statement (.and32Reg dst src) :=
  one 0x5c rfl (opcode_slotWord _ _ _ _ _) (by decide) (by decide)
theorem and64Imm (dst : Reg) (imm : BitVec 32) : Statement (.and64Imm dst imm) :=
  one 0x57 rfl (opcode_slotWord _ _ _ _ _) (by decide) (by decide)
theorem and64Reg (dst src : Reg) : Statement (.and64Reg dst src) :=
  one 0x5f rfl (opcode_slotWord _ _ _ _ _) (by decide) (by decide)
theorem lsh32Imm (dst : Reg) (imm : BitVec 32) : Statement (.lsh32Imm dst imm) :=
  one 0x64 rfl (opcode_slotWord _ _ _ _ _) (by decide) (by decide)
theorem lsh32Reg (dst src : Reg) : Statement (.lsh32Reg dst src) :=
  one 0x6c rfl (opcode_slotWord _ _ _ _ _) (by decide) (by decide)
theorem lsh64Imm (dst : Reg) (imm : BitVec 32) : Statement (.lsh64Imm dst imm) :=
  one 0x67 rfl (opcode_slotWord _ _ _ _ _) (by decide) (by decide)
theorem lsh64Reg (dst src : Reg) : Statement (.lsh64Reg dst src) :=
  one 0x6f rfl (opcode_slotWord _ _ _ _ _) (by decide) (by decide)
theorem rsh32Imm (dst : Reg) (imm : BitVec 32) : Statement (.rsh32Imm dst imm) :=
  one 0x74 rfl (opcode_slotWord _ _ _ _ _) (by decide) (by decide)
theorem rsh32Reg (dst src : Reg) : Statement (.rsh32Reg dst src) :=
  one 0x7c rfl (opcode_slotWord _ _ _ _ _) (by decide) (by decide)
theorem rsh64Imm (dst : Reg) (imm : BitVec 32) : Statement (.rsh64Imm dst imm) :=
  one 0x77 rfl (opcode_slotWord _ _ _ _ _) (by decide) (by decide)
theorem rsh64Reg (dst src : Reg) : Statement (.rsh64Reg dst src) :=
  one 0x7f rfl (opcode_slotWord _ _ _ _ _) (by decide) (by decide)
theorem neg32 (dst : Reg) : Statement (.neg32 dst) :=
  one 0x84 rfl (opcode_slotWord _ _ _ _ _) (by decide) (by decide)
theorem neg64 (dst : Reg) : Statement (.neg64 dst) :=
  one 0x87 rfl (opcode_slotWord _ _ _ _ _) (by decide) (by decide)
theorem mod32Imm (dst : Reg) (imm : BitVec 32) : Statement (.mod32Imm dst imm) :=
  one 0x94 rfl (opcode_slotWord _ _ _ _ _) (by decide) (by decide)
theorem mod32Reg (dst src : Reg) : Statement (.mod32Reg dst src) :=
  one 0x9c rfl (opcode_slotWord _ _ _ _ _) (by decide) (by decide)
theorem mod64Imm (dst : Reg) (imm : BitVec 32) : Statement (.mod64Imm dst imm) :=
  one 0x97 rfl (opcode_slotWord _ _ _ _ _) (by decide) (by decide)
theorem mod64Reg (dst src : Reg) : Statement (.mod64Reg dst src) :=
  one 0x9f rfl (opcode_slotWord _ _ _ _ _) (by decide) (by decide)
theorem xor32Imm (dst : Reg) (imm : BitVec 32) : Statement (.xor32Imm dst imm) :=
  one 0xa4 rfl (opcode_slotWord _ _ _ _ _) (by decide) (by decide)
theorem xor32Reg (dst src : Reg) : Statement (.xor32Reg dst src) :=
  one 0xac rfl (opcode_slotWord _ _ _ _ _) (by decide) (by decide)
theorem xor64Imm (dst : Reg) (imm : BitVec 32) : Statement (.xor64Imm dst imm) :=
  one 0xa7 rfl (opcode_slotWord _ _ _ _ _) (by decide) (by decide)
theorem xor64Reg (dst src : Reg) : Statement (.xor64Reg dst src) :=
  one 0xaf rfl (opcode_slotWord _ _ _ _ _) (by decide) (by decide)
theorem mov32Imm (dst : Reg) (imm : BitVec 32) : Statement (.mov32Imm dst imm) :=
  one 0xb4 rfl (opcode_slotWord _ _ _ _ _) (by decide) (by decide)
theorem mov32Reg (dst src : Reg) : Statement (.mov32Reg dst src) :=
  one 0xbc rfl (opcode_slotWord _ _ _ _ _) (by decide) (by decide)
theorem mov64Imm (dst : Reg) (imm : BitVec 32) : Statement (.mov64Imm dst imm) :=
  one 0xb7 rfl (opcode_slotWord _ _ _ _ _) (by decide) (by decide)
theorem mov64Reg (dst src : Reg) : Statement (.mov64Reg dst src) :=
  one 0xbf rfl (opcode_slotWord _ _ _ _ _) (by decide) (by decide)
theorem arsh32Imm (dst : Reg) (imm : BitVec 32) : Statement (.arsh32Imm dst imm) :=
  one 0xc4 rfl (opcode_slotWord _ _ _ _ _) (by decide) (by decide)
theorem arsh32Reg (dst src : Reg) : Statement (.arsh32Reg dst src) :=
  one 0xcc rfl (opcode_slotWord _ _ _ _ _) (by decide) (by decide)
theorem arsh64Imm (dst : Reg) (imm : BitVec 32) : Statement (.arsh64Imm dst imm) :=
  one 0xc7 rfl (opcode_slotWord _ _ _ _ _) (by decide) (by decide)
theorem arsh64Reg (dst src : Reg) : Statement (.arsh64Reg dst src) :=
  one 0xcf rfl (opcode_slotWord _ _ _ _ _) (by decide) (by decide)
theorem le16 (dst : Reg) : Statement (.le16 dst) :=
  one 0xd4 rfl (opcode_slotWord _ _ _ _ _) (by decide) (by decide)
theorem le32 (dst : Reg) : Statement (.le32 dst) :=
  one 0xd4 rfl (opcode_slotWord _ _ _ _ _) (by decide) (by decide)
theorem le64 (dst : Reg) : Statement (.le64 dst) :=
  one 0xd4 rfl (opcode_slotWord _ _ _ _ _) (by decide) (by decide)
theorem be16 (dst : Reg) : Statement (.be16 dst) :=
  one 0xdc rfl (opcode_slotWord _ _ _ _ _) (by decide) (by decide)
theorem be32 (dst : Reg) : Statement (.be32 dst) :=
  one 0xdc rfl (opcode_slotWord _ _ _ _ _) (by decide) (by decide)
theorem be64 (dst : Reg) : Statement (.be64 dst) :=
  one 0xdc rfl (opcode_slotWord _ _ _ _ _) (by decide) (by decide)
theorem ja (off : BitVec 16) : Statement (.ja off) :=
  one 0x05 rfl (opcode_slotWord _ _ _ _ _) (by decide) (by decide)
theorem jeq64Imm (dst : Reg) (imm : BitVec 32) (off : BitVec 16) : Statement (.jeq64Imm dst imm off) :=
  one 0x15 rfl (opcode_slotWord _ _ _ _ _) (by decide) (by decide)
theorem jeq64Reg (dst src : Reg) (off : BitVec 16) : Statement (.jeq64Reg dst src off) :=
  one 0x1d rfl (opcode_slotWord _ _ _ _ _) (by decide) (by decide)
theorem jeq32Imm (dst : Reg) (imm : BitVec 32) (off : BitVec 16) : Statement (.jeq32Imm dst imm off) :=
  one 0x16 rfl (opcode_slotWord _ _ _ _ _) (by decide) (by decide)
theorem jeq32Reg (dst src : Reg) (off : BitVec 16) : Statement (.jeq32Reg dst src off) :=
  one 0x1e rfl (opcode_slotWord _ _ _ _ _) (by decide) (by decide)
theorem jgt64Imm (dst : Reg) (imm : BitVec 32) (off : BitVec 16) : Statement (.jgt64Imm dst imm off) :=
  one 0x25 rfl (opcode_slotWord _ _ _ _ _) (by decide) (by decide)
theorem jgt64Reg (dst src : Reg) (off : BitVec 16) : Statement (.jgt64Reg dst src off) :=
  one 0x2d rfl (opcode_slotWord _ _ _ _ _) (by decide) (by decide)
theorem jgt32Imm (dst : Reg) (imm : BitVec 32) (off : BitVec 16) : Statement (.jgt32Imm dst imm off) :=
  one 0x26 rfl (opcode_slotWord _ _ _ _ _) (by decide) (by decide)
theorem jgt32Reg (dst src : Reg) (off : BitVec 16) : Statement (.jgt32Reg dst src off) :=
  one 0x2e rfl (opcode_slotWord _ _ _ _ _) (by decide) (by decide)
theorem jge64Imm (dst : Reg) (imm : BitVec 32) (off : BitVec 16) : Statement (.jge64Imm dst imm off) :=
  one 0x35 rfl (opcode_slotWord _ _ _ _ _) (by decide) (by decide)
theorem jge64Reg (dst src : Reg) (off : BitVec 16) : Statement (.jge64Reg dst src off) :=
  one 0x3d rfl (opcode_slotWord _ _ _ _ _) (by decide) (by decide)
theorem jge32Imm (dst : Reg) (imm : BitVec 32) (off : BitVec 16) : Statement (.jge32Imm dst imm off) :=
  one 0x36 rfl (opcode_slotWord _ _ _ _ _) (by decide) (by decide)
theorem jge32Reg (dst src : Reg) (off : BitVec 16) : Statement (.jge32Reg dst src off) :=
  one 0x3e rfl (opcode_slotWord _ _ _ _ _) (by decide) (by decide)
theorem jset64Imm (dst : Reg) (imm : BitVec 32) (off : BitVec 16) : Statement (.jset64Imm dst imm off) :=
  one 0x45 rfl (opcode_slotWord _ _ _ _ _) (by decide) (by decide)
theorem jset64Reg (dst src : Reg) (off : BitVec 16) : Statement (.jset64Reg dst src off) :=
  one 0x4d rfl (opcode_slotWord _ _ _ _ _) (by decide) (by decide)
theorem jset32Imm (dst : Reg) (imm : BitVec 32) (off : BitVec 16) : Statement (.jset32Imm dst imm off) :=
  one 0x46 rfl (opcode_slotWord _ _ _ _ _) (by decide) (by decide)
theorem jset32Reg (dst src : Reg) (off : BitVec 16) : Statement (.jset32Reg dst src off) :=
  one 0x4e rfl (opcode_slotWord _ _ _ _ _) (by decide) (by decide)
theorem jne64Imm (dst : Reg) (imm : BitVec 32) (off : BitVec 16) : Statement (.jne64Imm dst imm off) :=
  one 0x55 rfl (opcode_slotWord _ _ _ _ _) (by decide) (by decide)
theorem jne64Reg (dst src : Reg) (off : BitVec 16) : Statement (.jne64Reg dst src off) :=
  one 0x5d rfl (opcode_slotWord _ _ _ _ _) (by decide) (by decide)
theorem jne32Imm (dst : Reg) (imm : BitVec 32) (off : BitVec 16) : Statement (.jne32Imm dst imm off) :=
  one 0x56 rfl (opcode_slotWord _ _ _ _ _) (by decide) (by decide)
theorem jne32Reg (dst src : Reg) (off : BitVec 16) : Statement (.jne32Reg dst src off) :=
  one 0x5e rfl (opcode_slotWord _ _ _ _ _) (by decide) (by decide)
theorem jsgt64Imm (dst : Reg) (imm : BitVec 32) (off : BitVec 16) : Statement (.jsgt64Imm dst imm off) :=
  one 0x65 rfl (opcode_slotWord _ _ _ _ _) (by decide) (by decide)
theorem jsgt64Reg (dst src : Reg) (off : BitVec 16) : Statement (.jsgt64Reg dst src off) :=
  one 0x6d rfl (opcode_slotWord _ _ _ _ _) (by decide) (by decide)
theorem jsgt32Imm (dst : Reg) (imm : BitVec 32) (off : BitVec 16) : Statement (.jsgt32Imm dst imm off) :=
  one 0x66 rfl (opcode_slotWord _ _ _ _ _) (by decide) (by decide)
theorem jsgt32Reg (dst src : Reg) (off : BitVec 16) : Statement (.jsgt32Reg dst src off) :=
  one 0x6e rfl (opcode_slotWord _ _ _ _ _) (by decide) (by decide)
theorem jsge64Imm (dst : Reg) (imm : BitVec 32) (off : BitVec 16) : Statement (.jsge64Imm dst imm off) :=
  one 0x75 rfl (opcode_slotWord _ _ _ _ _) (by decide) (by decide)
theorem jsge64Reg (dst src : Reg) (off : BitVec 16) : Statement (.jsge64Reg dst src off) :=
  one 0x7d rfl (opcode_slotWord _ _ _ _ _) (by decide) (by decide)
theorem jsge32Imm (dst : Reg) (imm : BitVec 32) (off : BitVec 16) : Statement (.jsge32Imm dst imm off) :=
  one 0x76 rfl (opcode_slotWord _ _ _ _ _) (by decide) (by decide)
theorem jsge32Reg (dst src : Reg) (off : BitVec 16) : Statement (.jsge32Reg dst src off) :=
  one 0x7e rfl (opcode_slotWord _ _ _ _ _) (by decide) (by decide)
theorem jlt64Imm (dst : Reg) (imm : BitVec 32) (off : BitVec 16) : Statement (.jlt64Imm dst imm off) :=
  one 0xa5 rfl (opcode_slotWord _ _ _ _ _) (by decide) (by decide)
theorem jlt64Reg (dst src : Reg) (off : BitVec 16) : Statement (.jlt64Reg dst src off) :=
  one 0xad rfl (opcode_slotWord _ _ _ _ _) (by decide) (by decide)
theorem jlt32Imm (dst : Reg) (imm : BitVec 32) (off : BitVec 16) : Statement (.jlt32Imm dst imm off) :=
  one 0xa6 rfl (opcode_slotWord _ _ _ _ _) (by decide) (by decide)
theorem jlt32Reg (dst src : Reg) (off : BitVec 16) : Statement (.jlt32Reg dst src off) :=
  one 0xae rfl (opcode_slotWord _ _ _ _ _) (by decide) (by decide)
theorem jle64Imm (dst : Reg) (imm : BitVec 32) (off : BitVec 16) : Statement (.jle64Imm dst imm off) :=
  one 0xb5 rfl (opcode_slotWord _ _ _ _ _) (by decide) (by decide)
theorem jle64Reg (dst src : Reg) (off : BitVec 16) : Statement (.jle64Reg dst src off) :=
  one 0xbd rfl (opcode_slotWord _ _ _ _ _) (by decide) (by decide)
theorem jle32Imm (dst : Reg) (imm : BitVec 32) (off : BitVec 16) : Statement (.jle32Imm dst imm off) :=
  one 0xb6 rfl (opcode_slotWord _ _ _ _ _) (by decide) (by decide)
theorem jle32Reg (dst src : Reg) (off : BitVec 16) : Statement (.jle32Reg dst src off) :=
  one 0xbe rfl (opcode_slotWord _ _ _ _ _) (by decide) (by decide)
theorem jslt64Imm (dst : Reg) (imm : BitVec 32) (off : BitVec 16) : Statement (.jslt64Imm dst imm off) :=
  one 0xc5 rfl (opcode_slotWord _ _ _ _ _) (by decide) (by decide)
theorem jslt64Reg (dst src : Reg) (off : BitVec 16) : Statement (.jslt64Reg dst src off) :=
  one 0xcd rfl (opcode_slotWord _ _ _ _ _) (by decide) (by decide)
theorem jslt32Imm (dst : Reg) (imm : BitVec 32) (off : BitVec 16) : Statement (.jslt32Imm dst imm off) :=
  one 0xc6 rfl (opcode_slotWord _ _ _ _ _) (by decide) (by decide)
theorem jslt32Reg (dst src : Reg) (off : BitVec 16) : Statement (.jslt32Reg dst src off) :=
  one 0xce rfl (opcode_slotWord _ _ _ _ _) (by decide) (by decide)
theorem jsle64Imm (dst : Reg) (imm : BitVec 32) (off : BitVec 16) : Statement (.jsle64Imm dst imm off) :=
  one 0xd5 rfl (opcode_slotWord _ _ _ _ _) (by decide) (by decide)
theorem jsle64Reg (dst src : Reg) (off : BitVec 16) : Statement (.jsle64Reg dst src off) :=
  one 0xdd rfl (opcode_slotWord _ _ _ _ _) (by decide) (by decide)
theorem jsle32Imm (dst : Reg) (imm : BitVec 32) (off : BitVec 16) : Statement (.jsle32Imm dst imm off) :=
  one 0xd6 rfl (opcode_slotWord _ _ _ _ _) (by decide) (by decide)
theorem jsle32Reg (dst src : Reg) (off : BitVec 16) : Statement (.jsle32Reg dst src off) :=
  one 0xde rfl (opcode_slotWord _ _ _ _ _) (by decide) (by decide)
theorem callHelper (imm : BitVec 32) : Statement (.callHelper imm) :=
  one 0x85 rfl (opcode_slotWord _ _ _ _ _) (by decide) (by decide)
theorem callLocal (off : BitVec 16) (imm : BitVec 32) : Statement (.callLocal off imm) :=
  one 0x85 rfl (opcode_slotWord _ _ _ _ _) (by decide) (by decide)
theorem callPlatform (imm : BitVec 32) : Statement (.callPlatform imm) :=
  one 0x85 rfl (opcode_slotWord _ _ _ _ _) (by decide) (by decide)
theorem exit : Statement (.exit) :=
  one 0x95 rfl (opcode_slotWord _ _ _ _ _) (by decide) (by decide)
theorem ldxw (dst src : Reg) (off : BitVec 16) : Statement (.ldxw dst src off) :=
  one 0x61 rfl (opcode_slotWord _ _ _ _ _) (by decide) (by decide)
theorem ldxh (dst src : Reg) (off : BitVec 16) : Statement (.ldxh dst src off) :=
  one 0x69 rfl (opcode_slotWord _ _ _ _ _) (by decide) (by decide)
theorem ldxb (dst src : Reg) (off : BitVec 16) : Statement (.ldxb dst src off) :=
  one 0x71 rfl (opcode_slotWord _ _ _ _ _) (by decide) (by decide)
theorem ldxdw (dst src : Reg) (off : BitVec 16) : Statement (.ldxdw dst src off) :=
  one 0x79 rfl (opcode_slotWord _ _ _ _ _) (by decide) (by decide)
theorem stw (dst : Reg) (off : BitVec 16) (imm : BitVec 32) : Statement (.stw dst off imm) :=
  one 0x62 rfl (opcode_slotWord _ _ _ _ _) (by decide) (by decide)
theorem sth (dst : Reg) (off : BitVec 16) (imm : BitVec 32) : Statement (.sth dst off imm) :=
  one 0x6a rfl (opcode_slotWord _ _ _ _ _) (by decide) (by decide)
theorem stb (dst : Reg) (off : BitVec 16) (imm : BitVec 32) : Statement (.stb dst off imm) :=
  one 0x72 rfl (opcode_slotWord _ _ _ _ _) (by decide) (by decide)
theorem stdw (dst : Reg) (off : BitVec 16) (imm : BitVec 32) : Statement (.stdw dst off imm) :=
  one 0x7a rfl (opcode_slotWord _ _ _ _ _) (by decide) (by decide)
theorem stxw (dst src : Reg) (off : BitVec 16) : Statement (.stxw dst src off) :=
  one 0x63 rfl (opcode_slotWord _ _ _ _ _) (by decide) (by decide)
theorem stxh (dst src : Reg) (off : BitVec 16) : Statement (.stxh dst src off) :=
  one 0x6b rfl (opcode_slotWord _ _ _ _ _) (by decide) (by decide)
theorem stxb (dst src : Reg) (off : BitVec 16) : Statement (.stxb dst src off) :=
  one 0x73 rfl (opcode_slotWord _ _ _ _ _) (by decide) (by decide)
theorem stxdw (dst src : Reg) (off : BitVec 16) : Statement (.stxdw dst src off) :=
  one 0x7b rfl (opcode_slotWord _ _ _ _ _) (by decide) (by decide)
theorem atomicAdd32 (dst src : Reg) (off : BitVec 16) : Statement (.atomicAdd32 dst src off) :=
  one 0xc3 rfl (opcode_slotWord _ _ _ _ _) (by decide) (by decide)
theorem atomicFetchAdd32 (dst src : Reg) (off : BitVec 16) : Statement (.atomicFetchAdd32 dst src off) :=
  one 0xc3 rfl (opcode_slotWord _ _ _ _ _) (by decide) (by decide)
theorem atomicOr32 (dst src : Reg) (off : BitVec 16) : Statement (.atomicOr32 dst src off) :=
  one 0xc3 rfl (opcode_slotWord _ _ _ _ _) (by decide) (by decide)
theorem atomicFetchOr32 (dst src : Reg) (off : BitVec 16) : Statement (.atomicFetchOr32 dst src off) :=
  one 0xc3 rfl (opcode_slotWord _ _ _ _ _) (by decide) (by decide)
theorem atomicAnd32 (dst src : Reg) (off : BitVec 16) : Statement (.atomicAnd32 dst src off) :=
  one 0xc3 rfl (opcode_slotWord _ _ _ _ _) (by decide) (by decide)
theorem atomicFetchAnd32 (dst src : Reg) (off : BitVec 16) : Statement (.atomicFetchAnd32 dst src off) :=
  one 0xc3 rfl (opcode_slotWord _ _ _ _ _) (by decide) (by decide)
theorem atomicXor32 (dst src : Reg) (off : BitVec 16) : Statement (.atomicXor32 dst src off) :=
  one 0xc3 rfl (opcode_slotWord _ _ _ _ _) (by decide) (by decide)
theorem atomicFetchXor32 (dst src : Reg) (off : BitVec 16) : Statement (.atomicFetchXor32 dst src off) :=
  one 0xc3 rfl (opcode_slotWord _ _ _ _ _) (by decide) (by decide)
theorem atomicXchg32 (dst src : Reg) (off : BitVec 16) : Statement (.atomicXchg32 dst src off) :=
  one 0xc3 rfl (opcode_slotWord _ _ _ _ _) (by decide) (by decide)
theorem atomicCmpxchg32 (dst src : Reg) (off : BitVec 16) : Statement (.atomicCmpxchg32 dst src off) :=
  one 0xc3 rfl (opcode_slotWord _ _ _ _ _) (by decide) (by decide)
theorem atomicAdd64 (dst src : Reg) (off : BitVec 16) : Statement (.atomicAdd64 dst src off) :=
  one 0xdb rfl (opcode_slotWord _ _ _ _ _) (by decide) (by decide)
theorem atomicFetchAdd64 (dst src : Reg) (off : BitVec 16) : Statement (.atomicFetchAdd64 dst src off) :=
  one 0xdb rfl (opcode_slotWord _ _ _ _ _) (by decide) (by decide)
theorem atomicOr64 (dst src : Reg) (off : BitVec 16) : Statement (.atomicOr64 dst src off) :=
  one 0xdb rfl (opcode_slotWord _ _ _ _ _) (by decide) (by decide)
theorem atomicFetchOr64 (dst src : Reg) (off : BitVec 16) : Statement (.atomicFetchOr64 dst src off) :=
  one 0xdb rfl (opcode_slotWord _ _ _ _ _) (by decide) (by decide)
theorem atomicAnd64 (dst src : Reg) (off : BitVec 16) : Statement (.atomicAnd64 dst src off) :=
  one 0xdb rfl (opcode_slotWord _ _ _ _ _) (by decide) (by decide)
theorem atomicFetchAnd64 (dst src : Reg) (off : BitVec 16) : Statement (.atomicFetchAnd64 dst src off) :=
  one 0xdb rfl (opcode_slotWord _ _ _ _ _) (by decide) (by decide)
theorem atomicXor64 (dst src : Reg) (off : BitVec 16) : Statement (.atomicXor64 dst src off) :=
  one 0xdb rfl (opcode_slotWord _ _ _ _ _) (by decide) (by decide)
theorem atomicFetchXor64 (dst src : Reg) (off : BitVec 16) : Statement (.atomicFetchXor64 dst src off) :=
  one 0xdb rfl (opcode_slotWord _ _ _ _ _) (by decide) (by decide)
theorem atomicXchg64 (dst src : Reg) (off : BitVec 16) : Statement (.atomicXchg64 dst src off) :=
  one 0xdb rfl (opcode_slotWord _ _ _ _ _) (by decide) (by decide)
theorem atomicCmpxchg64 (dst src : Reg) (off : BitVec 16) : Statement (.atomicCmpxchg64 dst src off) :=
  one 0xdb rfl (opcode_slotWord _ _ _ _ _) (by decide) (by decide)
theorem lddw (dst : Reg) (imm nextImm : BitVec 32) : Statement (.lddw dst imm nextImm) :=
  two rfl (opcode_slotWord _ _ _ _ _)
theorem ldMapFd (dst : Reg) (imm : BitVec 32) : Statement (.ldMapFd dst imm) :=
  two rfl (opcode_slotWord _ _ _ _ _)
theorem ldMapFdValue (dst : Reg) (imm nextImm : BitVec 32) : Statement (.ldMapFdValue dst imm nextImm) :=
  two rfl (opcode_slotWord _ _ _ _ _)
theorem ldVarAddr (dst : Reg) (imm : BitVec 32) : Statement (.ldVarAddr dst imm) :=
  two rfl (opcode_slotWord _ _ _ _ _)
theorem ldCodeAddr (dst : Reg) (imm : BitVec 32) : Statement (.ldCodeAddr dst imm) :=
  two rfl (opcode_slotWord _ _ _ _ _)
theorem ldMapIdx (dst : Reg) (imm : BitVec 32) : Statement (.ldMapIdx dst imm) :=
  two rfl (opcode_slotWord _ _ _ _ _)
theorem ldMapIdxValue (dst : Reg) (imm nextImm : BitVec 32) : Statement (.ldMapIdxValue dst imm nextImm) :=
  two rfl (opcode_slotWord _ _ _ _ _)
theorem ldabsw (rest : BitVec 56) : Statement (.ldabsw rest) :=
  one 0x20 rfl (legacyWord_fields _ _).1 (by decide) (by decide)
theorem ldabsh (rest : BitVec 56) : Statement (.ldabsh rest) :=
  one 0x28 rfl (legacyWord_fields _ _).1 (by decide) (by decide)
theorem ldabsb (rest : BitVec 56) : Statement (.ldabsb rest) :=
  one 0x30 rfl (legacyWord_fields _ _).1 (by decide) (by decide)
theorem ldabsdw (rest : BitVec 56) : Statement (.ldabsdw rest) :=
  one 0x38 rfl (legacyWord_fields _ _).1 (by decide) (by decide)
theorem ldindw (rest : BitVec 56) : Statement (.ldindw rest) :=
  one 0x40 rfl (legacyWord_fields _ _).1 (by decide) (by decide)
theorem ldindh (rest : BitVec 56) : Statement (.ldindh rest) :=
  one 0x48 rfl (legacyWord_fields _ _).1 (by decide) (by decide)
theorem ldindb (rest : BitVec 56) : Statement (.ldindb rest) :=
  one 0x50 rfl (legacyWord_fields _ _).1 (by decide) (by decide)
theorem ldinddw (rest : BitVec 56) : Statement (.ldinddw rest) :=
  one 0x58 rfl (legacyWord_fields _ _).1 (by decide) (by decide)

end Sys2Proof.Laws.Encoding
end

