-- ==== Sys2Proof/Tests/Slice0.lean ====
section
/-! SUPPORT. Sys2Proof/Tests/Slice0.lean: small tests. Words are written out from the encodings of
spec/opcode_table.json; expected results are those of the vectors of spec/95_test_vectors.md and
spec/96_test_vectors_2.md, named by their ids. The `test_witness_` theorems show that the hypotheses of each
obligation can be met. -/

namespace Sys2Proof.Tests

open Sys2Proof Sys2Proof.Machine

/-! ## WellFormed: each check refuses an ill-formed term -/

/-- R10 in a written position, dst_reg (rule R124). -/
theorem test_wf_refuses_writing_r10_arithmetic : ∀ i ∈ ([.add32Imm 10 0, .add32Reg 10 1, .add64Imm 10 0, .add64Reg 10 1, .sub32Imm 10 0, .sub32Reg 10 1,
     .sub64Imm 10 0, .sub64Reg 10 1, .mul32Imm 10 0, .mul32Reg 10 1, .mul64Imm 10 0, .mul64Reg 10 1,
     .div32Imm 10 0, .div32Reg 10 1, .div64Imm 10 0, .div64Reg 10 1, .or32Imm 10 0, .or32Reg 10 1,
     .or64Imm 10 0, .or64Reg 10 1, .and32Imm 10 0, .and32Reg 10 1, .and64Imm 10 0, .and64Reg 10 1,
     .lsh32Imm 10 0, .lsh32Reg 10 1, .lsh64Imm 10 0, .lsh64Reg 10 1, .rsh32Imm 10 0, .rsh32Reg 10 1,
     .rsh64Imm 10 0, .rsh64Reg 10 1, .neg32 10, .neg64 10, .mod32Imm 10 0, .mod32Reg 10 1, .mod64Imm 10 0,
     .mod64Reg 10 1, .xor32Imm 10 0, .xor32Reg 10 1, .xor64Imm 10 0, .xor64Reg 10 1, .mov32Imm 10 0,
     .mov32Reg 10 1, .mov64Imm 10 0, .mov64Reg 10 1, .arsh32Imm 10 0, .arsh32Reg 10 1, .arsh64Imm 10 0,
     .arsh64Reg 10 1] : List Instr),
    i.wf .offset = false := by decide

/-- R10 in a written position, dst_reg (rule R124). -/
theorem test_wf_refuses_writing_r10_other_families : ∀ i ∈ ([.le16 10, .le32 10, .le64 10, .be16 10, .be32 10, .be64 10, .ldxw 10 1 0, .ldxh 10 1 0, .ldxb 10 1 0,
     .ldxdw 10 1 0, .lddw 10 0 0, .ldMapFd 10 0, .ldMapFdValue 10 0 0, .ldVarAddr 10 0, .ldCodeAddr 10 0,
     .ldMapIdx 10 0, .ldMapIdxValue 10 0 0] : List Instr),
    i.wf .offset = false := by decide

/-- R10 as the register an atomic with fetch writes, src_reg (rule R124). -/
theorem test_wf_refuses_fetch_into_r10 : ∀ i ∈ ([.atomicFetchAdd32 1 10 0, .atomicFetchOr32 1 10 0, .atomicFetchAnd32 1 10 0, .atomicFetchXor32 1 10 0,
     .atomicXchg32 1 10 0, .atomicFetchAdd64 1 10 0, .atomicFetchOr64 1 10 0, .atomicFetchAnd64 1 10 0,
     .atomicFetchXor64 1 10 0, .atomicXchg64 1 10 0] : List Instr),
    i.wf .offset = false := by decide

/-- The unused distance field of a BPF-local call is not zero (rule R264). -/
theorem test_wf_refuses_unused_call_field :
    (Instr.callLocal 2 1).wf .offset = false ∧ (Instr.callLocal 1 2).wf .imm = false ∧
    (Instr.callLocal 2 0).wf .offset = true ∧ (Instr.callLocal 0 2).wf .imm = true := by decide

/-- R10 may be read: as a source, a base, an operand of a jump or of an atomic without fetch (rule R33). -/
theorem test_wf_accepts_reading_r10 : ∀ i ∈ ([.add64Reg 1 10, .ldxw 1 10 0, .stw 10 0 0, .stxdw 10 10 0,
    .jeq64Reg 10 10 0, .atomicAdd64 10 10 0, .atomicCmpxchg64 10 10 0] : List Instr), i.wf .offset = true := by decide

/-! ## Decode: every constructor, from a word written out from the table's encoding -/

theorem test_decode_alu_k : ∀ p ∈ ([(64, 0x8000000500000304, .add32Imm 3 0x80000005), (64, 0x8000000500000307, .add64Imm 3 0x80000005),
     (64, 0x8000000500000314, .sub32Imm 3 0x80000005), (64, 0x8000000500000317, .sub64Imm 3 0x80000005),
     (64, 0x8000000500000324, .mul32Imm 3 0x80000005), (64, 0x8000000500000327, .mul64Imm 3 0x80000005),
     (64, 0x8000000500000334, .div32Imm 3 0x80000005), (64, 0x8000000500000337, .div64Imm 3 0x80000005),
     (64, 0x8000000500000344, .or32Imm 3 0x80000005), (64, 0x8000000500000347, .or64Imm 3 0x80000005),
     (64, 0x8000000500000354, .and32Imm 3 0x80000005), (64, 0x8000000500000357, .and64Imm 3 0x80000005),
     (64, 0x8000000500000364, .lsh32Imm 3 0x80000005), (64, 0x8000000500000367, .lsh64Imm 3 0x80000005),
     (64, 0x8000000500000374, .rsh32Imm 3 0x80000005), (64, 0x8000000500000377, .rsh64Imm 3 0x80000005),
     (64, 0x8000000500000394, .mod32Imm 3 0x80000005), (64, 0x8000000500000397, .mod64Imm 3 0x80000005),
     (64, 0x80000005000003A4, .xor32Imm 3 0x80000005), (64, 0x80000005000003A7, .xor64Imm 3 0x80000005),
     (64, 0x80000005000003B4, .mov32Imm 3 0x80000005), (64, 0x80000005000003B7, .mov64Imm 3 0x80000005),
     (64, 0x80000005000003C4, .arsh32Imm 3 0x80000005), (64, 0x80000005000003C7, .arsh64Imm 3 0x80000005)] :
    List (Nat × Nat × Instr)), decodeTableWord p.1 p.2.1 = some p.2.2 := by decide

theorem test_decode_alu_x : ∀ p ∈ ([(64, 0x000000000000730C, .add32Reg 3 7), (64, 0x000000000000730F, .add64Reg 3 7),
     (64, 0x000000000000731C, .sub32Reg 3 7), (64, 0x000000000000731F, .sub64Reg 3 7),
     (64, 0x000000000000732C, .mul32Reg 3 7), (64, 0x000000000000732F, .mul64Reg 3 7),
     (64, 0x000000000000733C, .div32Reg 3 7), (64, 0x000000000000733F, .div64Reg 3 7),
     (64, 0x000000000000734C, .or32Reg 3 7), (64, 0x000000000000734F, .or64Reg 3 7),
     (64, 0x000000000000735C, .and32Reg 3 7), (64, 0x000000000000735F, .and64Reg 3 7),
     (64, 0x000000000000736C, .lsh32Reg 3 7), (64, 0x000000000000736F, .lsh64Reg 3 7),
     (64, 0x000000000000737C, .rsh32Reg 3 7), (64, 0x000000000000737F, .rsh64Reg 3 7),
     (64, 0x000000000000739C, .mod32Reg 3 7), (64, 0x000000000000739F, .mod64Reg 3 7),
     (64, 0x00000000000073AC, .xor32Reg 3 7), (64, 0x00000000000073AF, .xor64Reg 3 7),
     (64, 0x00000000000073BC, .mov32Reg 3 7), (64, 0x00000000000073BF, .mov64Reg 3 7),
     (64, 0x00000000000073CC, .arsh32Reg 3 7), (64, 0x00000000000073CF, .arsh64Reg 3 7)] :
    List (Nat × Nat × Instr)), decodeTableWord p.1 p.2.1 = some p.2.2 := by decide

theorem test_decode_alu_un : ∀ p ∈ ([(64, 0x0000000000000384, .neg32 3), (64, 0x0000000000000387, .neg64 3)] :
    List (Nat × Nat × Instr)), decodeTableWord p.1 p.2.1 = some p.2.2 := by decide

theorem test_decode_byteswap : ∀ p ∈ ([(64, 0x00000010000003D4, .le16 3), (64, 0x00000020000003D4, .le32 3), (64, 0x00000040000003D4, .le64 3),
     (64, 0x00000010000003DC, .be16 3), (64, 0x00000020000003DC, .be32 3), (64, 0x00000040000003DC, .be64 3)] :
    List (Nat × Nat × Instr)), decodeTableWord p.1 p.2.1 = some p.2.2 := by decide

theorem test_decode_jump_ja : ∀ p ∈ ([(64, 0x0000000080010005, .ja 0x8001)] :
    List (Nat × Nat × Instr)), decodeTableWord p.1 p.2.1 = some p.2.2 := by decide

theorem test_decode_jump_jcc_k : ∀ p ∈ ([(64, 0x8000000580010315, .jeq64Imm 3 0x80000005 0x8001),
     (64, 0x8000000580010316, .jeq32Imm 3 0x80000005 0x8001),
     (64, 0x8000000580010325, .jgt64Imm 3 0x80000005 0x8001),
     (64, 0x8000000580010326, .jgt32Imm 3 0x80000005 0x8001),
     (64, 0x8000000580010335, .jge64Imm 3 0x80000005 0x8001),
     (64, 0x8000000580010336, .jge32Imm 3 0x80000005 0x8001),
     (64, 0x8000000580010345, .jset64Imm 3 0x80000005 0x8001),
     (64, 0x8000000580010346, .jset32Imm 3 0x80000005 0x8001),
     (64, 0x8000000580010355, .jne64Imm 3 0x80000005 0x8001),
     (64, 0x8000000580010356, .jne32Imm 3 0x80000005 0x8001),
     (64, 0x8000000580010365, .jsgt64Imm 3 0x80000005 0x8001),
     (64, 0x8000000580010366, .jsgt32Imm 3 0x80000005 0x8001),
     (64, 0x8000000580010375, .jsge64Imm 3 0x80000005 0x8001),
     (64, 0x8000000580010376, .jsge32Imm 3 0x80000005 0x8001),
     (64, 0x80000005800103A5, .jlt64Imm 3 0x80000005 0x8001),
     (64, 0x80000005800103A6, .jlt32Imm 3 0x80000005 0x8001),
     (64, 0x80000005800103B5, .jle64Imm 3 0x80000005 0x8001),
     (64, 0x80000005800103B6, .jle32Imm 3 0x80000005 0x8001),
     (64, 0x80000005800103C5, .jslt64Imm 3 0x80000005 0x8001),
     (64, 0x80000005800103C6, .jslt32Imm 3 0x80000005 0x8001),
     (64, 0x80000005800103D5, .jsle64Imm 3 0x80000005 0x8001),
     (64, 0x80000005800103D6, .jsle32Imm 3 0x80000005 0x8001)] :
    List (Nat × Nat × Instr)), decodeTableWord p.1 p.2.1 = some p.2.2 := by decide

theorem test_decode_jump_jcc_x : ∀ p ∈ ([(64, 0x000000008001731D, .jeq64Reg 3 7 0x8001), (64, 0x000000008001731E, .jeq32Reg 3 7 0x8001),
     (64, 0x000000008001732D, .jgt64Reg 3 7 0x8001), (64, 0x000000008001732E, .jgt32Reg 3 7 0x8001),
     (64, 0x000000008001733D, .jge64Reg 3 7 0x8001), (64, 0x000000008001733E, .jge32Reg 3 7 0x8001),
     (64, 0x000000008001734D, .jset64Reg 3 7 0x8001), (64, 0x000000008001734E, .jset32Reg 3 7 0x8001),
     (64, 0x000000008001735D, .jne64Reg 3 7 0x8001), (64, 0x000000008001735E, .jne32Reg 3 7 0x8001),
     (64, 0x000000008001736D, .jsgt64Reg 3 7 0x8001), (64, 0x000000008001736E, .jsgt32Reg 3 7 0x8001),
     (64, 0x000000008001737D, .jsge64Reg 3 7 0x8001), (64, 0x000000008001737E, .jsge32Reg 3 7 0x8001),
     (64, 0x00000000800173AD, .jlt64Reg 3 7 0x8001), (64, 0x00000000800173AE, .jlt32Reg 3 7 0x8001),
     (64, 0x00000000800173BD, .jle64Reg 3 7 0x8001), (64, 0x00000000800173BE, .jle32Reg 3 7 0x8001),
     (64, 0x00000000800173CD, .jslt64Reg 3 7 0x8001), (64, 0x00000000800173CE, .jslt32Reg 3 7 0x8001),
     (64, 0x00000000800173DD, .jsle64Reg 3 7 0x8001), (64, 0x00000000800173DE, .jsle32Reg 3 7 0x8001)] :
    List (Nat × Nat × Instr)), decodeTableWord p.1 p.2.1 = some p.2.2 := by decide

theorem test_decode_call : ∀ p ∈ ([(64, 0x8000000500000085, .callHelper 0x80000005), (64, 0x0000000080011085, .callLocal 0x8001 0x0),
     (64, 0x8000000500002085, .callPlatform 0x80000005), (64, 0x0000000000000095, .exit)] :
    List (Nat × Nat × Instr)), decodeTableWord p.1 p.2.1 = some p.2.2 := by decide

theorem test_decode_ldst : ∀ p ∈ ([(64, 0x0000000080017361, .ldxw 3 7 0x8001), (64, 0x0000000080017369, .ldxh 3 7 0x8001),
     (64, 0x0000000080017371, .ldxb 3 7 0x8001), (64, 0x0000000080017379, .ldxdw 3 7 0x8001),
     (64, 0x8000000580010362, .stw 3 0x8001 0x80000005), (64, 0x800000058001036A, .sth 3 0x8001 0x80000005),
     (64, 0x8000000580010372, .stb 3 0x8001 0x80000005), (64, 0x800000058001037A, .stdw 3 0x8001 0x80000005),
     (64, 0x0000000080017363, .stxw 3 7 0x8001), (64, 0x000000008001736B, .stxh 3 7 0x8001),
     (64, 0x0000000080017373, .stxb 3 7 0x8001), (64, 0x000000008001737B, .stxdw 3 7 0x8001)] :
    List (Nat × Nat × Instr)), decodeTableWord p.1 p.2.1 = some p.2.2 := by decide

theorem test_decode_atomic_32 : ∀ p ∈ ([(64, 0x00000000800173C3, .atomicAdd32 3 7 0x8001), (64, 0x00000001800173C3, .atomicFetchAdd32 3 7 0x8001),
     (64, 0x00000040800173C3, .atomicOr32 3 7 0x8001), (64, 0x00000041800173C3, .atomicFetchOr32 3 7 0x8001),
     (64, 0x00000050800173C3, .atomicAnd32 3 7 0x8001),
     (64, 0x00000051800173C3, .atomicFetchAnd32 3 7 0x8001),
     (64, 0x000000A0800173C3, .atomicXor32 3 7 0x8001),
     (64, 0x000000A1800173C3, .atomicFetchXor32 3 7 0x8001),
     (64, 0x000000E1800173C3, .atomicXchg32 3 7 0x8001),
     (64, 0x000000F1800173C3, .atomicCmpxchg32 3 7 0x8001)] :
    List (Nat × Nat × Instr)), decodeTableWord p.1 p.2.1 = some p.2.2 := by decide

theorem test_decode_atomic_64 : ∀ p ∈ ([(64, 0x00000000800173DB, .atomicAdd64 3 7 0x8001), (64, 0x00000001800173DB, .atomicFetchAdd64 3 7 0x8001),
     (64, 0x00000040800173DB, .atomicOr64 3 7 0x8001), (64, 0x00000041800173DB, .atomicFetchOr64 3 7 0x8001),
     (64, 0x00000050800173DB, .atomicAnd64 3 7 0x8001),
     (64, 0x00000051800173DB, .atomicFetchAnd64 3 7 0x8001),
     (64, 0x000000A0800173DB, .atomicXor64 3 7 0x8001),
     (64, 0x000000A1800173DB, .atomicFetchXor64 3 7 0x8001),
     (64, 0x000000E1800173DB, .atomicXchg64 3 7 0x8001),
     (64, 0x000000F1800173DB, .atomicCmpxchg64 3 7 0x8001)] :
    List (Nat × Nat × Instr)), decodeTableWord p.1 p.2.1 = some p.2.2 := by decide

theorem test_decode_imm64 : ∀ p ∈ ([(128, 0x12345678000000008000000500000318, .lddw 3 0x80000005 0x12345678),
     (128, 0x00000000000000008000000500001318, .ldMapFd 3 0x80000005),
     (128, 0x12345678000000008000000500002318, .ldMapFdValue 3 0x80000005 0x12345678),
     (128, 0x00000000000000008000000500003318, .ldVarAddr 3 0x80000005),
     (128, 0x00000000000000008000000500004318, .ldCodeAddr 3 0x80000005),
     (128, 0x00000000000000008000000500005318, .ldMapIdx 3 0x80000005),
     (128, 0x12345678000000008000000500006318, .ldMapIdxValue 3 0x80000005 0x12345678)] :
    List (Nat × Nat × Instr)), decodeTableWord p.1 p.2.1 = some p.2.2 := by decide

theorem test_decode_legacy : ∀ p ∈ ([(64, 0x123456789ABCDE20, .ldabsw 0x123456789ABCDE), (64, 0x123456789ABCDE28, .ldabsh 0x123456789ABCDE),
     (64, 0x123456789ABCDE30, .ldabsb 0x123456789ABCDE), (64, 0x123456789ABCDE38, .ldabsdw 0x123456789ABCDE),
     (64, 0x123456789ABCDE40, .ldindw 0x123456789ABCDE), (64, 0x123456789ABCDE48, .ldindh 0x123456789ABCDE),
     (64, 0x123456789ABCDE50, .ldindb 0x123456789ABCDE), (64, 0x123456789ABCDE58, .ldinddw 0x123456789ABCDE)] :
    List (Nat × Nat × Instr)), decodeTableWord p.1 p.2.1 = some p.2.2 := by decide

/-- Malformed words (vectors E1, E2, E5, E8, E13, E17, E19, E23, E26 to E31, E34; rules R116 to R124). -/
theorem test_decode_refuses : ∀ p ∈ ([(64, 0x0000000500010107), (64, 0x0000000500002107), (64, 0x000000000000218F),
    (64, 0x00000008000001D4), (64, 0x000000090001211D), (64, 0x0000000100000185), (64, 0x0000000400002161),
    (64, 0x000000E0000021C3), (128, 0x7118), (128, 0x40118), (128, 0x00000002000000070000000100000118),
    (128, 0x00000002000001000000000100000118), (128, 0x00000002000000000000000100001118), (64, 0), (64, 0xC10C)] :
    List (Nat × Nat)), decodeTableWord p.1 p.2 = none := by decide

/-- Vector rows of 96_test_vectors_2 section 3.10 in big-endian bytes (rules R92, R93). -/
theorem test_decode_big_endian_bytes : ∀ p ∈ ([([0x54, 0x30, 0, 0, 0, 0xff, 0, 0xff], .and32Imm 3 0xFF00FF),
    ([0x1f, 0x98, 0, 0, 0, 0, 0, 0], .sub64Reg 9 8), ([0xdc, 0x20, 0, 0, 0, 0, 0, 0x10], .be16 2),
    ([0x65, 0x50, 1, 2, 0xff, 0xff, 0xff, 0xfe], .jsgt64Imm 5 0xFFFFFFFE 258),
    ([0x85, 0x01, 0, 0x10, 0, 0, 0, 0], .callLocal 16 0), ([0x7a, 0xa0, 0xff, 0xf0, 0x80, 0, 0, 0], .stdw 10 0xFFF0 0x80000000),
    ([0x73, 0x23, 0x7f, 0xff, 0, 0, 0, 0], .stxb 2 3 0x7FFF), ([0xdb, 0x12, 0, 8, 0, 0, 0, 0xf1], .atomicCmpxchg64 1 2 8),
    ([0x18, 0x16, 0, 0, 0, 0, 0, 2, 0, 0, 0, 0, 0, 0, 0, 0x10], .ldMapIdxValue 1 2 0x10)] :
    List (List Byte × Instr)), decodeBytes .be .offset p.1 = .ok (p.2, []) := by decide

/-! ## One step, with the expected results of the spec's vectors -/

/-- The vector conventions: the words, then four exits; the registers set on top of the entry state. -/
def start (cfg : Config) (ws : List Word) (rs : List (Reg × Word)) (m : List Host.Cell) : State :=
  rs.foldl (fun s p => s.write p.1 p.2) (State.enter cfg (ws ++ [0x95, 0x95, 0x95, 0x95]) m [])

/-- The state after one step (the same state where there is none). -/
def after (s : State) : State :=
  match step s with
  | .next t => t
  | _ => s

/-- Eight bytes at 0x100001F8, where the vectors put them. -/
def eight (bs : List Byte) : List Host.Cell := bs.zipIdx.map (fun p => (0x100001F8 + p.2, p.1))

/-- The big-endian reference machine. -/
def bigEndian : Config := { Config.reference with byteOrder := .be }

/-- Vectors S1a, S3, S4, S5, S6, A1, A2, A4, A5, A7, A8, A9, A10, A11, A12, A13, A14, A15, A16, A17. -/
theorem test_step_arithmetic_1 : ∀ v ∈ ([([0x1122334400000107], [(1, 0x5)], 1, 0x11223349),
     ([0x000000000000210C], [(1, 0xFFFFFFFF00000001), (2, 0x1FFFFFFFF)], 1, 0x0),
     ([0x000000000000210F], [(1, 0xFFFFFFFF00000001), (2, 0x1FFFFFFFF)], 1, 0x100000000),
     ([0xFFFFFFFF000001A4], [(1, 0x123456789ABCDEF0)], 1, 0x6543210F),
     ([0xFFFFFFFF000001A7], [(1, 0x123456789ABCDEF0)], 1, 0xEDCBA9876543210F),
     ([0x0000000100000107], [(1, 0xFFFFFFFFFFFFFFFF)], 1, 0x0),
     ([0x0000000100000104], [(1, 0xFFFFFFFFFFFFFFFF)], 1, 0x0),
     ([0xFFFFFFFF00000104], [(1, 0x0)], 1, 0xFFFFFFFF), ([0x000000000000110F], [(1, 0x7)], 1, 0xE),
     ([0x0000000100000117], [(1, 0x0)], 1, 0xFFFFFFFFFFFFFFFF),
     ([0x000000000000211C], [(1, 0xFFFFFFFF00000000), (2, 0x1)], 1, 0xFFFFFFFF),
     ([0x000000000000211F], [(1, 0x5), (2, 0x7)], 1, 0xFFFFFFFFFFFFFFFE),
     ([0x0000000200000127], [(1, 0xFFFFFFFFFFFFFFFF)], 1, 0xFFFFFFFFFFFFFFFE),
     ([0x000000000000212C], [(1, 0x80000000), (2, 0x2)], 1, 0x0),
     ([0xFFFFFFFF00000127], [(1, 0x3)], 1, 0xFFFFFFFFFFFFFFFD),
     ([0xFFFFFFFF00000124], [(1, 0x3)], 1, 0xFFFFFFFD),
     ([0x000000000000213F], [(1, 0x8000000000000000), (2, 0x2)], 1, 0x4000000000000000),
     ([0x000000000000213F], [(1, 0x123456789ABCDEF0), (2, 0x0)], 1, 0x0),
     ([0x000000000000213C], [(1, 0x123456789ABCDEF0), (2, 0xFFFFFFFF00000000)], 1, 0x0),
     ([0x0000000000000137], [(1, 0x123456789ABCDEF0)], 1, 0x0)] :
    List (List Word × List (Reg × Word) × Reg × Word)),
    (after (start Config.reference v.1 v.2.1 [])).reg v.2.2.1 = .value v.2.2.2 ∧
    (after (start Config.reference v.1 v.2.1 [])).pc = 1 := by decide

/-- Vectors A18, A19, A20, A22, A23, A24, A25, A26, A27, A29, A30, A31, A32, A33, A34, A35, A36, A37, A38, A39. -/
theorem test_step_arithmetic_2 : ∀ v ∈ ([([0x0000000000000134], [(1, 0x123456789ABCDEF0)], 1, 0x0),
     ([0xFFFFFFFF00000137], [(1, 0xFFFFFFFFFFFFFFFE)], 1, 0x0),
     ([0xFFFFFFFF00000134], [(1, 0xFFFFFFFE)], 1, 0x0),
     ([0x000000000000213C], [(1, 0x80000000), (2, 0xFFFFFFFF)], 1, 0x0),
     ([0x000000000000219F], [(1, 0x123456789ABCDEF0), (2, 0x0)], 1, 0x123456789ABCDEF0),
     ([0x000000000000219C], [(1, 0x1234567899999999), (2, 0x0)], 1, 0x99999999),
     ([0x0000000000000197], [(1, 0x123456789ABCDEF0)], 1, 0x123456789ABCDEF0),
     ([0x0000000000000194], [(1, 0x123456789ABCDEF0)], 1, 0x9ABCDEF0),
     ([0x0000000700000197], [(1, 0x64)], 1, 0x2),
     ([0x000000000000219C], [(1, 0xFFFFFFFF), (2, 0x10)], 1, 0xF),
     ([0x8000000000000147], [(1, 0x123456789ABCDEF0)], 1, 0xFFFFFFFF9ABCDEF0),
     ([0x8000000000000144], [(1, 0x123456789ABCDEF0)], 1, 0x9ABCDEF0),
     ([0xFFFFFF0000000157], [(1, 0x123456789ABCDEF0)], 1, 0x123456789ABCDE00),
     ([0xFFFFFF0000000154], [(1, 0x123456789ABCDEF0)], 1, 0x9ABCDE00),
     ([0x000000000000215F], [(1, 0x123456789ABCDEF0), (2, 0xFFFFFFFF)], 1, 0x9ABCDEF0),
     ([0x00000000000011AF], [(1, 0x123456789ABCDEF0)], 1, 0x0),
     ([0x0000003F00000167], [(1, 0x1)], 1, 0x8000000000000000), ([0x0000004000000167], [(1, 0x1)], 1, 0x1),
     ([0x000000000000216F], [(1, 0x1), (2, 0xFFFFFFFFFFFFFF41)], 1, 0x2),
     ([0x0000001F00000164], [(1, 0xFFFFFFFF00000001)], 1, 0x80000000)] :
    List (List Word × List (Reg × Word) × Reg × Word)),
    (after (start Config.reference v.1 v.2.1 [])).reg v.2.2.1 = .value v.2.2.2 ∧
    (after (start Config.reference v.1 v.2.1 [])).pc = 1 := by decide

/-- Vectors A40, A41, A42, A43, A44, A45, A46, A47, A48, A49, A50, A51, A52, A54, A55, A56, A57, A58, A59, A60. -/
theorem test_step_arithmetic_3 : ∀ v ∈ ([([0x000000000000216C], [(1, 0xFFFFFFFF00000003), (2, 0x20)], 1, 0x3),
     ([0x0000000100000164], [(1, 0x80000001)], 1, 0x2),
     ([0x0000003F00000177], [(1, 0x8000000000000000)], 1, 0x1),
     ([0x0000000400000174], [(1, 0xFFFFFFFF80000000)], 1, 0x8000000),
     ([0x000000000000217F], [(1, 0x123456789ABCDEF0), (2, 0x40)], 1, 0x123456789ABCDEF0),
     ([0x000000000000217C], [(1, 0x123456789ABCDEF0), (2, 0x24)], 1, 0x9ABCDEF),
     ([0x0000003F000001C7], [(1, 0x8000000000000000)], 1, 0xFFFFFFFFFFFFFFFF),
     ([0x0000003E000001C7], [(1, 0x4000000000000000)], 1, 0x1),
     ([0x0000001F000001C4], [(1, 0x80000000)], 1, 0xFFFFFFFF),
     ([0x00000000000021CC], [(1, 0xFFFFFFFF7FFFFFFF), (2, 0x4)], 1, 0x7FFFFFF),
     ([0x00000000000021CF], [(1, 0xF000000000000000), (2, 0x44)], 1, 0xFF00000000000000),
     ([0x0000000000000187], [(1, 0x1)], 1, 0xFFFFFFFFFFFFFFFF), ([0x0000000000000187], [(1, 0x0)], 1, 0x0),
     ([0x0000000000000184], [(1, 0xFFFFFFFF00000001)], 1, 0xFFFFFFFF),
     ([0x0000000000000184], [(1, 0x80000000)], 1, 0x80000000),
     ([0x80000000000001B7], [], 1, 0xFFFFFFFF80000000), ([0x80000000000001B4], [], 1, 0x80000000),
     ([0x00000000000021BF], [(2, 0x123456789ABCDEF0)], 1, 0x123456789ABCDEF0),
     ([0x00000000000021BC], [(1, 0xFFFFFFFFFFFFFFFF), (2, 0x123456789ABCDEF0)], 1, 0x9ABCDEF0),
     ([0x000000000000A1BF], [], 1, 0x10000200)] :
    List (List Word × List (Reg × Word) × Reg × Word)),
    (after (start Config.reference v.1 v.2.1 [])).reg v.2.2.1 = .value v.2.2.2 ∧
    (after (start Config.reference v.1 v.2.1 [])).pc = 1 := by decide

/-- Vectors B1, B2, B3, B4, B5, B6. -/
theorem test_step_byte_swap_le : ∀ v ∈ ([([0x00000010000001D4], [(1, 0x123456789ABCDEF)], 1, 0xCDEF),
     ([0x00000020000001D4], [(1, 0x123456789ABCDEF)], 1, 0x89ABCDEF),
     ([0x00000040000001D4], [(1, 0x123456789ABCDEF)], 1, 0x123456789ABCDEF),
     ([0x00000010000001DC], [(1, 0x123456789ABCDEF)], 1, 0xEFCD),
     ([0x00000020000001DC], [(1, 0x123456789ABCDEF)], 1, 0xEFCDAB89),
     ([0x00000040000001DC], [(1, 0x123456789ABCDEF)], 1, 0xEFCDAB8967452301)] :
    List (List Word × List (Reg × Word) × Reg × Word)),
    (after (start Config.reference v.1 v.2.1 [])).reg v.2.2.1 = .value v.2.2.2 ∧
    (after (start Config.reference v.1 v.2.1 [])).pc = 1 := by decide

/-- Vectors B7, B8, B9, B10, B11, B12. -/
theorem test_step_byte_swap_be : ∀ v ∈ ([([0x00000010000001D4], [(1, 0x123456789ABCDEF)], 1, 0xEFCD),
     ([0x00000020000001D4], [(1, 0x123456789ABCDEF)], 1, 0xEFCDAB89),
     ([0x00000040000001D4], [(1, 0x123456789ABCDEF)], 1, 0xEFCDAB8967452301),
     ([0x00000010000001DC], [(1, 0x123456789ABCDEF)], 1, 0xCDEF),
     ([0x00000020000001DC], [(1, 0x123456789ABCDEF)], 1, 0x89ABCDEF),
     ([0x00000040000001DC], [(1, 0x123456789ABCDEF)], 1, 0x123456789ABCDEF)] :
    List (List Word × List (Reg × Word) × Reg × Word)),
    (after (start bigEndian v.1 v.2.1 [])).reg v.2.2.1 = .value v.2.2.2 ∧
    (after (start bigEndian v.1 v.2.1 [])).pc = 1 := by decide

/-- Vectors S8a, S8b, J1, J2, J3, J4, J5, J6, J7, J8, J9, J10, J11, J12, J13, J14, J15, J16, J17, J18, J19, J20, J21, J22, J23. -/
theorem test_step_jumps_1 : ∀ v ∈ ([(0x000000000002217E, [(1, 0xAAAAAAAA00000000), (2, 0x55555555FFFFFFFF)], 3),
     (0x000000000002217E, [(1, 0x80000000), (2, 0x7FFFFFFF)], 1), (0x0000000000020005, [], 3),
     (0x0000000000000005, [], 1), (0xFFFFFFFF00020115, [(1, 0xFFFFFFFFFFFFFFFF)], 3),
     (0xFFFFFFFF00020116, [(1, 0xFFFFFFFF)], 3), (0xFFFFFFFF00020115, [(1, 0xFFFFFFFF)], 1),
     (0x000000000002211E, [(1, 0xAAAAAAAA00000005), (2, 0xBBBBBBBB00000005)], 3),
     (0x000000000002211D, [(1, 0xAAAAAAAA00000005), (2, 0xBBBBBBBB00000005)], 1),
     (0x0000000000020155, [(1, 0x0)], 1), (0x000000000002215D, [(1, 0x1), (2, 0x2)], 3),
     (0x0000000000020156, [(1, 0x100000000)], 1),
     (0x000000000002215E, [(1, 0x100000001), (2, 0x200000002)], 3), (0xFFFFFFFF00020125, [(1, 0x5)], 1),
     (0xFFFFFFFF00020165, [(1, 0x5)], 3), (0x000000000002212D, [(1, 0xFFFFFFFFFFFFFFFF), (2, 0x1)], 3),
     (0x000000000002216D, [(1, 0xFFFFFFFFFFFFFFFF), (2, 0x1)], 1), (0x0000000100020126, [(1, 0x80000000)], 3),
     (0x0000000100020166, [(1, 0x80000000)], 1), (0x000000000002212E, [(1, 0xFFFFFFFF00000001), (2, 0x2)], 1),
     (0x000000000002216E, [(1, 0x1), (2, 0xFFFFFFFF)], 3), (0x0000000700020135, [(1, 0x7)], 3),
     (0x000000000002213D, [(1, 0x6), (2, 0x7)], 1), (0xFFFFFFFF00020136, [(1, 0xFFFFFFFF)], 3),
     (0x000000000002213E, [(1, 0x0), (2, 0x80000000)], 1)] :
    List (Word × List (Reg × Word) × Nat)),
    (after (start Config.reference [v.1] v.2.1 [])).pc = v.2.2 := by decide

/-- Vectors J24, J25, J26, J27, J28, J29, J30, J31, J32, J33, J34, J35, J36, J37, J38, J39, J40, J41, J42, J43, J44, J45, J46, J47. -/
theorem test_step_jumps_2 : ∀ v ∈ ([(0xFFFFFFFF00020175, [(1, 0xFFFFFFFFFFFFFFFE)], 1),
     (0x000000000002217D, [(1, 0x0), (2, 0x8000000000000000)], 3), (0xFFFFFFFF00020176, [(1, 0xFFFFFFFF)], 3),
     (0xFFFFFFFF000201A5, [(1, 0x1)], 3), (0xFFFFFFFF000201C5, [(1, 0x1)], 1),
     (0x00000000000221AD, [(1, 0x2), (2, 0x2)], 1), (0x00000001000201A6, [(1, 0xFFFFFFFF00000000)], 3),
     (0x00000000000221AE, [(1, 0x80000000), (2, 0x7FFFFFFF)], 1),
     (0x00000000000221CE, [(1, 0x80000000), (2, 0x7FFFFFFF)], 3),
     (0x00000000000221CD, [(1, 0x8000000000000000), (2, 0x0)], 3), (0x80000000000201C6, [(1, 0x7FFFFFFF)], 1),
     (0x00000007000201B5, [(1, 0x7)], 3), (0x00000000000221BD, [(1, 0x8), (2, 0x7)], 1),
     (0x00000007000201B6, [(1, 0x900000007)], 3), (0x00000000000221BE, [(1, 0xFFFFFFFF), (2, 0x0)], 1),
     (0x00000000000201D5, [(1, 0xFFFFFFFFFFFFFFFF)], 3),
     (0x00000000000221DD, [(1, 0x1), (2, 0xFFFFFFFFFFFFFFFF)], 1), (0x00000000000201D6, [(1, 0x80000000)], 3),
     (0x00000000000221DE, [(1, 0x100000000), (2, 0xFFFFFFFF)], 1),
     (0x8000000000020145, [(1, 0x8000000000000000)], 3), (0x8000000000020146, [(1, 0x8000000000000000)], 1),
     (0x000000000002214D, [(1, 0xF0), (2, 0xF)], 1),
     (0x000000000002214E, [(1, 0x10), (2, 0xFFFFFFFF00000010)], 3), (0x000000000002111D, [(1, 0x3)], 3)] :
    List (Word × List (Reg × Word) × Nat)),
    (after (start Config.reference [v.1] v.2.1 [])).pc = v.2.2 := by decide

/-- Vectors M1, M2, M3, M4, M9, M10, M11, M12, M17, M18, M19, M20, M21, M23, M32. -/
theorem test_step_loads_and_stores_le : ∀ v ∈ ([
     (0x00000000FFF8A171, [(1, 0xFFFFFFFFFFFFFFFF)], [0x88, 0x77, 0x66, 0x55, 0x44, 0x33, 0x22, 0x11], [0x88, 0x77, 0x66, 0x55, 0x44, 0x33, 0x22, 0x11], 1, 0x88),
     (0x00000000FFF8A169, [(1, 0xFFFFFFFFFFFFFFFF)], [0x88, 0x77, 0x66, 0x55, 0x44, 0x33, 0x22, 0x11], [0x88, 0x77, 0x66, 0x55, 0x44, 0x33, 0x22, 0x11], 1, 0x7788),
     (0x00000000FFF8A161, [(1, 0xFFFFFFFFFFFFFFFF)], [0x88, 0x77, 0x66, 0x55, 0x44, 0x33, 0x22, 0x11], [0x88, 0x77, 0x66, 0x55, 0x44, 0x33, 0x22, 0x11], 1, 0x55667788),
     (0x00000000FFF8A179, [(1, 0xFFFFFFFFFFFFFFFF)], [0x88, 0x77, 0x66, 0x55, 0x44, 0x33, 0x22, 0x11], [0x88, 0x77, 0x66, 0x55, 0x44, 0x33, 0x22, 0x11], 1, 0x1122334455667788),
     (0x00000000FFF81A73, [(1, 0xA1B2C3D4E5F60718)], [0x88, 0x77, 0x66, 0x55, 0x44, 0x33, 0x22, 0x11], [0x18, 0x77, 0x66, 0x55, 0x44, 0x33, 0x22, 0x11], 10, 0x10000200),
     (0x00000000FFF81A6B, [(1, 0xA1B2C3D4E5F60718)], [0x88, 0x77, 0x66, 0x55, 0x44, 0x33, 0x22, 0x11], [0x18, 0x07, 0x66, 0x55, 0x44, 0x33, 0x22, 0x11], 10, 0x10000200),
     (0x00000000FFF81A63, [(1, 0xA1B2C3D4E5F60718)], [0x88, 0x77, 0x66, 0x55, 0x44, 0x33, 0x22, 0x11], [0x18, 0x07, 0xF6, 0xE5, 0x44, 0x33, 0x22, 0x11], 10, 0x10000200),
     (0x00000000FFF81A7B, [(1, 0xA1B2C3D4E5F60718)], [0x88, 0x77, 0x66, 0x55, 0x44, 0x33, 0x22, 0x11], [0x18, 0x07, 0xF6, 0xE5, 0xD4, 0xC3, 0xB2, 0xA1], 10, 0x10000200),
     (0xFFFFFF80FFF80A72, [], [0x88, 0x77, 0x66, 0x55, 0x44, 0x33, 0x22, 0x11], [0x80, 0x77, 0x66, 0x55, 0x44, 0x33, 0x22, 0x11], 10, 0x10000200),
     (0xFFFFFF80FFF80A6A, [], [0x88, 0x77, 0x66, 0x55, 0x44, 0x33, 0x22, 0x11], [0x80, 0xFF, 0x66, 0x55, 0x44, 0x33, 0x22, 0x11], 10, 0x10000200),
     (0xFFFFFF80FFF80A62, [], [0x88, 0x77, 0x66, 0x55, 0x44, 0x33, 0x22, 0x11], [0x80, 0xFF, 0xFF, 0xFF, 0x44, 0x33, 0x22, 0x11], 10, 0x10000200),
     (0xFFFFFF80FFF80A7A, [], [0x88, 0x77, 0x66, 0x55, 0x44, 0x33, 0x22, 0x11], [0x80, 0xFF, 0xFF, 0xFF, 0xFF, 0xFF, 0xFF, 0xFF], 10, 0x10000200),
     (0x0000000000021261, [(1, 0x100001FA)], [0x88, 0x77, 0x66, 0x55, 0x44, 0x33, 0x22, 0x11], [0x88, 0x77, 0x66, 0x55, 0x44, 0x33, 0x22, 0x11], 2, 0x11223344),
     (0x0000000000001179, [(1, 0x100001F8)], [0x88, 0x77, 0x66, 0x55, 0x44, 0x33, 0x22, 0x11], [0x88, 0x77, 0x66, 0x55, 0x44, 0x33, 0x22, 0x11], 1, 0x1122334455667788),
     (0x00000000FFF8AA7B, [], [0x88, 0x77, 0x66, 0x55, 0x44, 0x33, 0x22, 0x11], [0x00, 0x02, 0x00, 0x10, 0x00, 0x00, 0x00, 0x00], 10, 0x10000200)] :
    List (Word × List (Reg × Word) × List Byte × List Byte × Reg × Word)),
    (after (start Config.reference [v.1] v.2.1 (eight v.2.2.1))).mem = eight v.2.2.2.1 ∧
    (after (start Config.reference [v.1] v.2.1 (eight v.2.2.1))).reg v.2.2.2.2.1 = .value v.2.2.2.2.2 := by decide

/-- Vectors M5, M6, M7, M8, M13, M14, M15, M16. -/
theorem test_step_loads_and_stores_be : ∀ v ∈ ([
     (0x00000000FFF8A171, [(1, 0xFFFFFFFFFFFFFFFF)], [0x88, 0x77, 0x66, 0x55, 0x44, 0x33, 0x22, 0x11], [0x88, 0x77, 0x66, 0x55, 0x44, 0x33, 0x22, 0x11], 1, 0x88),
     (0x00000000FFF8A169, [(1, 0xFFFFFFFFFFFFFFFF)], [0x88, 0x77, 0x66, 0x55, 0x44, 0x33, 0x22, 0x11], [0x88, 0x77, 0x66, 0x55, 0x44, 0x33, 0x22, 0x11], 1, 0x8877),
     (0x00000000FFF8A161, [(1, 0xFFFFFFFFFFFFFFFF)], [0x88, 0x77, 0x66, 0x55, 0x44, 0x33, 0x22, 0x11], [0x88, 0x77, 0x66, 0x55, 0x44, 0x33, 0x22, 0x11], 1, 0x88776655),
     (0x00000000FFF8A179, [(1, 0xFFFFFFFFFFFFFFFF)], [0x88, 0x77, 0x66, 0x55, 0x44, 0x33, 0x22, 0x11], [0x88, 0x77, 0x66, 0x55, 0x44, 0x33, 0x22, 0x11], 1, 0x8877665544332211),
     (0x00000000FFF81A73, [(1, 0xA1B2C3D4E5F60718)], [0x88, 0x77, 0x66, 0x55, 0x44, 0x33, 0x22, 0x11], [0x18, 0x77, 0x66, 0x55, 0x44, 0x33, 0x22, 0x11], 10, 0x10000200),
     (0x00000000FFF81A6B, [(1, 0xA1B2C3D4E5F60718)], [0x88, 0x77, 0x66, 0x55, 0x44, 0x33, 0x22, 0x11], [0x07, 0x18, 0x66, 0x55, 0x44, 0x33, 0x22, 0x11], 10, 0x10000200),
     (0x00000000FFF81A63, [(1, 0xA1B2C3D4E5F60718)], [0x88, 0x77, 0x66, 0x55, 0x44, 0x33, 0x22, 0x11], [0xE5, 0xF6, 0x07, 0x18, 0x44, 0x33, 0x22, 0x11], 10, 0x10000200),
     (0x00000000FFF81A7B, [(1, 0xA1B2C3D4E5F60718)], [0x88, 0x77, 0x66, 0x55, 0x44, 0x33, 0x22, 0x11], [0xA1, 0xB2, 0xC3, 0xD4, 0xE5, 0xF6, 0x07, 0x18], 10, 0x10000200)] :
    List (Word × List (Reg × Word) × List Byte × List Byte × Reg × Word)),
    (after (start bigEndian [v.1] v.2.1 (eight v.2.2.1))).mem = eight v.2.2.2.1 ∧
    (after (start bigEndian [v.1] v.2.1 (eight v.2.2.1))).reg v.2.2.2.2.1 = .value v.2.2.2.2.2 := by decide

/-- Vectors S10a, T1, T2, T3, T4, T5, T6, T7, T8, T9, T10, T11. -/
theorem test_step_atomic_32 : ∀ v ∈ ([
     (0x00000000000021C3, [(1, 0x100001F8), (2, 0xFFFFFFFF00000003)], [0xFE, 0xFF, 0xFF, 0xFF, 0x11, 0x11, 0x11, 0x11], [0x01, 0x00, 0x00, 0x00, 0x11, 0x11, 0x11, 0x11], 2, 0xFFFFFFFF00000003),
     (0x00000000000021C3, [(1, 0x100001F8), (2, 0xFFFFFFFF0FF00FF1)], [0xF0, 0xF0, 0xF0, 0xF0, 0xAA, 0xAA, 0xAA, 0xAA], [0xE1, 0x00, 0xE1, 0x00, 0xAA, 0xAA, 0xAA, 0xAA], 2, 0xFFFFFFFF0FF00FF1),
     (0x00000001000021C3, [(1, 0x100001F8), (2, 0xFFFFFFFF0FF00FF1)], [0xF0, 0xF0, 0xF0, 0xF0, 0xAA, 0xAA, 0xAA, 0xAA], [0xE1, 0x00, 0xE1, 0x00, 0xAA, 0xAA, 0xAA, 0xAA], 2, 0xF0F0F0F0),
     (0x00000040000021C3, [(1, 0x100001F8), (2, 0xFFFFFFFF0FF00FF1)], [0xF0, 0xF0, 0xF0, 0xF0, 0xAA, 0xAA, 0xAA, 0xAA], [0xF1, 0xFF, 0xF0, 0xFF, 0xAA, 0xAA, 0xAA, 0xAA], 2, 0xFFFFFFFF0FF00FF1),
     (0x00000041000021C3, [(1, 0x100001F8), (2, 0xFFFFFFFF0FF00FF1)], [0xF0, 0xF0, 0xF0, 0xF0, 0xAA, 0xAA, 0xAA, 0xAA], [0xF1, 0xFF, 0xF0, 0xFF, 0xAA, 0xAA, 0xAA, 0xAA], 2, 0xF0F0F0F0),
     (0x00000050000021C3, [(1, 0x100001F8), (2, 0xFFFFFFFF0FF00FF1)], [0xF0, 0xF0, 0xF0, 0xF0, 0xAA, 0xAA, 0xAA, 0xAA], [0xF0, 0x00, 0xF0, 0x00, 0xAA, 0xAA, 0xAA, 0xAA], 2, 0xFFFFFFFF0FF00FF1),
     (0x00000051000021C3, [(1, 0x100001F8), (2, 0xFFFFFFFF0FF00FF1)], [0xF0, 0xF0, 0xF0, 0xF0, 0xAA, 0xAA, 0xAA, 0xAA], [0xF0, 0x00, 0xF0, 0x00, 0xAA, 0xAA, 0xAA, 0xAA], 2, 0xF0F0F0F0),
     (0x000000A0000021C3, [(1, 0x100001F8), (2, 0xFFFFFFFF0FF00FF1)], [0xF0, 0xF0, 0xF0, 0xF0, 0xAA, 0xAA, 0xAA, 0xAA], [0x01, 0xFF, 0x00, 0xFF, 0xAA, 0xAA, 0xAA, 0xAA], 2, 0xFFFFFFFF0FF00FF1),
     (0x000000A1000021C3, [(1, 0x100001F8), (2, 0xFFFFFFFF0FF00FF1)], [0xF0, 0xF0, 0xF0, 0xF0, 0xAA, 0xAA, 0xAA, 0xAA], [0x01, 0xFF, 0x00, 0xFF, 0xAA, 0xAA, 0xAA, 0xAA], 2, 0xF0F0F0F0),
     (0x000000E1000021C3, [(1, 0x100001F8), (2, 0xFFFFFFFF0FF00FF1)], [0xF0, 0xF0, 0xF0, 0xF0, 0xAA, 0xAA, 0xAA, 0xAA], [0xF1, 0x0F, 0xF0, 0x0F, 0xAA, 0xAA, 0xAA, 0xAA], 2, 0xF0F0F0F0),
     (0x000000F1000021C3, [(0, 0x55555555F0F0F0F0), (1, 0x100001F8), (2, 0xFFFFFFFF0FF00FF1)], [0xF0, 0xF0, 0xF0, 0xF0, 0xAA, 0xAA, 0xAA, 0xAA], [0xF1, 0x0F, 0xF0, 0x0F, 0xAA, 0xAA, 0xAA, 0xAA], 0, 0xF0F0F0F0),
     (0x000000F1000021C3, [(0, 0xF0F0F0F1), (1, 0x100001F8), (2, 0xFFFFFFFF0FF00FF1)], [0xF0, 0xF0, 0xF0, 0xF0, 0xAA, 0xAA, 0xAA, 0xAA], [0xF0, 0xF0, 0xF0, 0xF0, 0xAA, 0xAA, 0xAA, 0xAA], 0, 0xF0F0F0F0)] :
    List (Word × List (Reg × Word) × List Byte × List Byte × Reg × Word)),
    (after (start Config.reference [v.1] v.2.1 (eight v.2.2.1))).mem = eight v.2.2.2.1 ∧
    (after (start Config.reference [v.1] v.2.1 (eight v.2.2.1))).reg v.2.2.2.2.1 = .value v.2.2.2.2.2 := by decide

/-- Vectors S10b, T12, T13, T14, T15, T16, T17, T18, T19, T20, T21, T22, T24, T27. -/
theorem test_step_atomic_64 : ∀ v ∈ ([
     (0x00000000000021DB, [(1, 0x100001F8), (2, 0x3)], [0xFE, 0xFF, 0xFF, 0xFF, 0x11, 0x11, 0x11, 0x11], [0x01, 0x00, 0x00, 0x00, 0x12, 0x11, 0x11, 0x11], 2, 0x3),
     (0x00000000000021DB, [(1, 0x100001F8), (2, 0xF0F0F0F0FF00FF1)], [0xF0, 0xF0, 0xF0, 0xF0, 0xFF, 0x00, 0xFF, 0x00], [0xE1, 0x00, 0xE1, 0x00, 0x0F, 0x10, 0x0E, 0x10], 2, 0xF0F0F0F0FF00FF1),
     (0x00000001000021DB, [(1, 0x100001F8), (2, 0xF0F0F0F0FF00FF1)], [0xF0, 0xF0, 0xF0, 0xF0, 0xFF, 0x00, 0xFF, 0x00], [0xE1, 0x00, 0xE1, 0x00, 0x0F, 0x10, 0x0E, 0x10], 2, 0xFF00FFF0F0F0F0),
     (0x00000040000021DB, [(1, 0x100001F8), (2, 0xF0F0F0F0FF00FF1)], [0xF0, 0xF0, 0xF0, 0xF0, 0xFF, 0x00, 0xFF, 0x00], [0xF1, 0xFF, 0xF0, 0xFF, 0xFF, 0x0F, 0xFF, 0x0F], 2, 0xF0F0F0F0FF00FF1),
     (0x00000041000021DB, [(1, 0x100001F8), (2, 0xF0F0F0F0FF00FF1)], [0xF0, 0xF0, 0xF0, 0xF0, 0xFF, 0x00, 0xFF, 0x00], [0xF1, 0xFF, 0xF0, 0xFF, 0xFF, 0x0F, 0xFF, 0x0F], 2, 0xFF00FFF0F0F0F0),
     (0x00000050000021DB, [(1, 0x100001F8), (2, 0xF0F0F0F0FF00FF1)], [0xF0, 0xF0, 0xF0, 0xF0, 0xFF, 0x00, 0xFF, 0x00], [0xF0, 0x00, 0xF0, 0x00, 0x0F, 0x00, 0x0F, 0x00], 2, 0xF0F0F0F0FF00FF1),
     (0x00000051000021DB, [(1, 0x100001F8), (2, 0xF0F0F0F0FF00FF1)], [0xF0, 0xF0, 0xF0, 0xF0, 0xFF, 0x00, 0xFF, 0x00], [0xF0, 0x00, 0xF0, 0x00, 0x0F, 0x00, 0x0F, 0x00], 2, 0xFF00FFF0F0F0F0),
     (0x000000A0000021DB, [(1, 0x100001F8), (2, 0xF0F0F0F0FF00FF1)], [0xF0, 0xF0, 0xF0, 0xF0, 0xFF, 0x00, 0xFF, 0x00], [0x01, 0xFF, 0x00, 0xFF, 0xF0, 0x0F, 0xF0, 0x0F], 2, 0xF0F0F0F0FF00FF1),
     (0x000000A1000021DB, [(1, 0x100001F8), (2, 0xF0F0F0F0FF00FF1)], [0xF0, 0xF0, 0xF0, 0xF0, 0xFF, 0x00, 0xFF, 0x00], [0x01, 0xFF, 0x00, 0xFF, 0xF0, 0x0F, 0xF0, 0x0F], 2, 0xFF00FFF0F0F0F0),
     (0x000000E1000021DB, [(1, 0x100001F8), (2, 0xF0F0F0F0FF00FF1)], [0xF0, 0xF0, 0xF0, 0xF0, 0xFF, 0x00, 0xFF, 0x00], [0xF1, 0x0F, 0xF0, 0x0F, 0x0F, 0x0F, 0x0F, 0x0F], 2, 0xFF00FFF0F0F0F0),
     (0x000000F1000021DB, [(0, 0xFF00FFF0F0F0F0), (1, 0x100001F8), (2, 0xF0F0F0F0FF00FF1)], [0xF0, 0xF0, 0xF0, 0xF0, 0xFF, 0x00, 0xFF, 0x00], [0xF1, 0x0F, 0xF0, 0x0F, 0x0F, 0x0F, 0x0F, 0x0F], 2, 0xF0F0F0F0FF00FF1),
     (0x000000F1000021DB, [(0, 0x80FF00FFF0F0F0F0), (1, 0x100001F8), (2, 0xF0F0F0F0FF00FF1)], [0xF0, 0xF0, 0xF0, 0xF0, 0xFF, 0x00, 0xFF, 0x00], [0xF0, 0xF0, 0xF0, 0xF0, 0xFF, 0x00, 0xFF, 0x00], 0, 0xFF00FFF0F0F0F0),
     (0x00000001000011DB, [(1, 0x100001F8)], [0x05, 0x00, 0x00, 0x00, 0x00, 0x00, 0x00, 0x00], [0xFD, 0x01, 0x00, 0x10, 0x00, 0x00, 0x00, 0x00], 1, 0x5),
     (0x000000E1FFF80ADB, [(0, 0x1)], [0x05, 0x00, 0x00, 0x00, 0x00, 0x00, 0x00, 0x00], [0x01, 0x00, 0x00, 0x00, 0x00, 0x00, 0x00, 0x00], 0, 0x5)] :
    List (Word × List (Reg × Word) × List Byte × List Byte × Reg × Word)),
    (after (start Config.reference [v.1] v.2.1 (eight v.2.2.1))).mem = eight v.2.2.2.1 ∧
    (after (start Config.reference [v.1] v.2.1 (eight v.2.2.1))).reg v.2.2.2.2.1 = .value v.2.2.2.2.2 := by decide

/-- Vectors T36. -/
theorem test_step_atomic_be : ∀ v ∈ ([
     (0x00000001000021C3, [(1, 0x100001F8), (2, 0x1)], [0x00, 0x00, 0x00, 0xFF, 0x11, 0x11, 0x11, 0x11], [0x00, 0x00, 0x01, 0x00, 0x11, 0x11, 0x11, 0x11], 2, 0xFF)] :
    List (Word × List (Reg × Word) × List Byte × List Byte × Reg × Word)),
    (after (start bigEndian [v.1] v.2.1 (eight v.2.2.1))).mem = eight v.2.2.2.1 ∧
    (after (start bigEndian [v.1] v.2.1 (eight v.2.2.1))).reg v.2.2.2.2.1 = .value v.2.2.2.2.2 := by decide

/-- Vectors S2a, W1. -/
theorem test_step_lddw : ∀ v ∈ ([([0x5566778800000118, 0x1122334400000000], [], 1, 0x1122334455667788),
     ([0x0000000000000118, 0xFFFFFFFF00000000], [], 1, 0xFFFFFFFF00000000)] :
    List (List Word × List (Reg × Word) × Reg × Word)),
    (after (start Config.reference v.1 v.2.1 [])).reg v.2.2.1 = .value v.2.2.2 ∧
    (after (start Config.reference v.1 v.2.1 [])).pc = 2 := by decide

/-- Vectors A61, A63, A64, B14, B15, J49, J51, J52, J54, K7, K8, K12, K14, M24, M25. -/
theorem test_step_faults_1 : ∀ v ∈ ([([0x000000000000210F], [(1, 0x1)], .uninitializedRegister 0 2),
     ([0x0000000100000AB7], [], .illegalInstruction 0 0x100000AB7),
     ([0x0000000100000B07], [(1, 0x1)], .illegalInstruction 0 0x100000B07),
     ([0x00000040000001DC], [], .uninitializedRegister 0 1),
     ([0x0000002000000ADC], [], .illegalInstruction 0 0x2000000ADC),
     ([0x0000000000020115], [], .uninitializedRegister 0 1), ([0x0000000000040005], [], .pcOutOfRange 0 (5)),
     ([0x00000000FFFE0005], [], .pcOutOfRange 0 (-1)),
     ([0x000000007FFF0115], [(1, 0x0)], .pcOutOfRange 0 (0x8000)),
     ([0x0000000100002085], [(1, 0x21)], .unsupportedFeature 0 .platformHelper),
     ([0x0000000100000085], [(1, 0x3), (2, 0x4)], .unknownHelper 0 .agnostic (1)),
     ([0x0000000000041085], [], .pcOutOfRange 0 (5)), ([0x0000000000000095], [], .uninitializedRegister 0 0),
     ([0x000000000000A171], [], .memoryFault 0 0x10000200 1 .read .unmapped),
     ([0x00000000FFFCA179], [], .memoryFault 0 0x100001FC 8 .read .unmapped)] :
    List (List Word × List (Reg × Word) × Fault)),
    (after (start Config.reference v.1 v.2.1 [])).status = .faulted v.2.2 := by decide

/-- Vectors M27, M28, M30, M31, T28, T31, T33, T34, W4, W5, W7, L1, L6. -/
theorem test_step_faults_2 : ∀ v ∈ ([
     ([0x000000000000217B], [(1, 0xFFFFFFFFFFFFFFFC), (2, 0x0)], .memoryFault 0 0xFFFFFFFFFFFFFFFC 8 .write .wrap),
     ([0x0000000000021261], [(1, 0xFFFFFFFFFFFFFFFF)], .memoryFault 0 1 4 .read .unmapped),
     ([0x0000000000002163], [(1, 0x100001F8)], .uninitializedRegister 0 2),
     ([0x0000000000001A61], [(1, 0x100001F8)], .illegalInstruction 0 0x1A61),
     ([0x00000000000221C3], [(1, 0x100001F8), (2, 0x1)], .memoryFault 0 0x100001FA 4 .atomic .misaligned),
     ([0x00000000000021DB], [(1, 0x10000200), (2, 0x1)], .memoryFault 0 0x10000200 8 .atomic .unmapped),
     ([0x000000F1000021DB], [(1, 0x100001F8), (2, 0x1)], .uninitializedRegister 0 0),
     ([0x000000010000A1DB], [(1, 0x100001F8)], .illegalInstruction 0 0x10000A1DB),
     ([0x0000000100000A18, 0x0000000000000000], [], .illegalInstruction 0 0x100000A18),
     ([0x0000000300001118, 0x0000000000000000], [], .unsupportedFeature 0 .ldMapFd),
     ([0x0000000300004118, 0x0000000000000000], [], .unsupportedFeature 0 .ldCodeAddr),
     ([0x0000000E00000020], [], .unsupportedFeature 0 .legacyPacket),
     ([0x0000000E00001048], [], .unsupportedFeature 0 .legacyPacket)] :
    List (List Word × List (Reg × Word) × Fault)),
    (after (start Config.reference v.1 v.2.1 [])).status = .faulted v.2.2 := by decide

/-- The helper table of 96_test_vectors_2 (vectors K1 to K6, K9 to K11, K13), and three helpers more: 3 of which nothing
is known, 4 that answers 5 in step 1 and stores a 9 there, 5 that copies R3 bytes from R2 to R1. -/
def helperPlatform : Config :=
  { Config.reference with
    helpersAgnostic := [(1, ⟨2, .computes (.op .add (.arg 0) (.arg 1)) []⟩), (7, ⟨0, .computes (.const 0x77) []⟩),
      (3, ⟨1, .free⟩), (4, ⟨0, .answers [(1, ⟨5, [(0x100001F8, 9), (0x10000200, 9)]⟩)]⟩),
      (5, ⟨3, .computes (.const 0) [.copy (.arg 0) (.arg 1) (.arg 2)]⟩)]
    helpersPlatform := [(1, ⟨1, .computes (.op .mul (.arg 0) (.const 2)) []⟩)]
    hasPlatformHelpers := true }

/-- R0 to R9 as vectors K1 and K9 set them. -/
def callRegs : List (Reg × Word) :=
  [(0, 0xA0), (1, 3), (2, 4), (3, 0xA3), (4, 0xA4), (5, 0xA5), (6, 0xA6), (7, 0xA7), (8, 0xA8), (9, 0xA9)]

theorem test_step_helper_clobbers : let t := after (start helperPlatform [0x0000000100000085] callRegs [])
    t.reg 0 = .value 7 ∧ (∀ r ∈ ([1, 2, 3, 4, 5] : List Reg), t.reg r = .noValue) ∧ t.reg 6 = .value 0xA6 ∧
    t.reg 10 = .value 0x10000200 ∧ t.pc = 1 := by decide

/-- Vectors K2 and K6, and the example of rule R261. -/
theorem test_step_helper_results :
    (after (start helperPlatform [0x0000000700000085] [(6, 1)] [])).reg 0 = .value 0x77 ∧
    (after (start helperPlatform [0x0000000100002085] [(1, 0x21)] [])).reg 0 = .value 0x42 ∧
    (after (start helperPlatform [0x0000000100000085] [(1, 0x28), (2, 2)] [])).reg 0 = .value 0x2A := by decide

/-- A helper's writes: those recorded for the step, but for the byte in no region; and two bytes copied (rule R262). -/
theorem test_step_helper_writes :
    (after (start helperPlatform [0x0000000400000085] [] [])).reg 0 = .value 5 ∧
    (after (start helperPlatform [0x0000000400000085] [] [])).mem = [(0x100001F8, 9)] ∧
    (after (start helperPlatform [0x0000000500000085] [(1, 0x100001FA), (2, 0x100001F8), (3, 2)] (eight [1, 2, 3, 4]))).mem
      = eight [1, 2, 1, 2] := by decide

theorem test_step_helper_faults :
    (after (start helperPlatform [0x0000000100000085] [(1, 3)] [])).status = .faulted (.uninitializedRegister 0 2) ∧
    (after (start helperPlatform [0x0000000200000085] [(1, 3), (2, 4)] [])).status =
      .faulted (.unknownHelper 0 .agnostic 2) ∧
    (after (start helperPlatform [0xFFFFFFFF00000085] [(1, 3), (2, 4)] [])).status =
      .faulted (.unknownHelper 0 .agnostic (-1)) ∧
    (after (start helperPlatform [0x0000000300000085] [] [])).status = .faulted (.uninitializedRegister 0 1) := by decide

theorem test_step_local_call :
    let t := after (start { helperPlatform with frameStride := 256 } [0x0000000000021085] callRegs [])
    t.pc = 3 ∧ t.reg 10 = .value 0x10000100 ∧ t.reg 0 = .noValue ∧ t.reg 6 = .noValue ∧ t.reg 1 = .value 3 ∧
    t.callStack = [⟨1, .value 0xA6, .value 0xA7, .value 0xA8, .value 0xA9, 0x10000200⟩] := by decide

theorem test_step_local_call_at_depth_limit :
    (after (start { helperPlatform with maxCallDepth := some 0 } [0x0000000000021085] [] [])).status =
      .faulted (.callDepthExceeded 0) := by decide

theorem test_step_exit : let t := after (start Config.reference [0x95] [(0, 0x2A)] [])
    t.status = .exited 0x2A ∧ t.pc = 0 := by decide

/-- The platform of 96_test_vectors_2 section 3.8 and of its region vectors M33 to M35, T40. -/
def fullPlatform : Config :=
  { helperPlatform with
    hasMaps := true, hasMapFd := true, hasVariables := true, mapByFd := [(3, 0x30000000)], mapByIdx := [(3, 0x30000000)],
    mva := [(0x30000000, 0x30001000)], variableAddr := [(3, 0x40000018)], codeAddr := [(4, 0x50000020)],
    frameStride := 256,
    regions := [⟨0x20000000, 16, true, false, false⟩, ⟨0x20000010, 8, true, true, false⟩,
      ⟨0x30001000, 16, true, true, true⟩, ⟨0x40000018, 8, true, true, false⟩] }

theorem test_step_platform_addresses : ∀ v ∈ ([([0x0000000300001118, 0], 0x30000000),
    ([0x0000000300002118, 0x0000000800000000], 0x30001008), ([0x0000000300003118, 0], 0x40000018),
    ([0x0000000300004118, 0], 0x50000020), ([0x0000000300005118, 0], 0x30000000),
    ([0x0000000300006118, 0xFFFFFFFF00000000], 0x130000FFF)] : List (List Word × Word)),
    (after (start fullPlatform v.1 [] [])).reg 1 = .value v.2 := by decide

theorem test_step_region_faults :
    (after (start fullPlatform [0x0000000000000172] [(1, 0x20000000)] [])).status =
      .faulted (.memoryFault 0 0x20000000 1 .write .permission) ∧
    (after (start fullPlatform [0x00000000000C1279] [(1, 0x20000000)] [])).status =
      .faulted (.memoryFault 0 0x2000000C 8 .read .unmapped) ∧
    (after (start fullPlatform [0x00000000000021DB] [(1, 0x20000000), (2, 1)] [])).status =
      .faulted (.memoryFault 0 0x20000000 8 .atomic .permission) := by decide

/-- Vectors W11, W12 (second step): a wide instruction without its second slot, and the second slot itself. -/
theorem test_step_wide_slots :
    (after (State.enter Config.reference [0x0000000500000118] [] [])).status =
      .faulted (.illegalInstruction 0 0x0000000500000118) ∧
    (after ((State.enter Config.reference [0x10005, 0x0000000500000118, 0x0000000700000000, 0x95] [] []).setPc 2)).status =
      .faulted (.illegalInstruction 2 0x0000000700000000) := by decide

/-- Loading refuses an empty image, one that is no whole number of slots, and one that is too long (rule R382). -/
theorem test_loading_bounds :
    State.loadImage Config.reference [] [] [] = none ∧ State.loadImage Config.reference [0x95] [] [] = none ∧
    State.loadImage { Config.reference with programMaxSlots := some 1 } (slotBytes .le 0x95 ++ slotBytes .le 0x95) [] []
      = none ∧
    (State.loadImage { Config.reference with programMaxSlots := some 1 } (slotBytes .le 0x95) [] []).isSome := by decide

/-- The environment writes a shared byte and not a private one (rule R74). -/
theorem test_environment_move :
    (State.enter fullPlatform [0x95] [] [⟨[(0x30001000, 7), (0x20000010, 7)], [], []⟩]).betweenSteps.mem =
      [(0x30001000, 7)] := by decide

/-- `ldxh r1, [r2]` of the shared bytes 11 22 while the environment overwrites the first with 99 (rule R71): read
before the move, the register keeps the byte that memory no longer holds; and read after it. -/
theorem test_racing_load :
    let t := fun times => after ((start fullPlatform [0x2169] [(2, 0x30001000)] [(0x30001000, 0x11), (0x30001001, 0x22)]
      |> fun s => { s with env := [⟨[], [[(0x30001000, 0x99)]], times⟩] }))
    (t [0]).reg 1 = .value 0x2211 ∧ (t [0]).mem = [(0x30001000, 0x99), (0x30001001, 0x22)] ∧
    (t [1]).reg 1 = .value 0x2299 ∧ (t [1]).mem = (t [0]).mem := by decide

/-- `sth [r2], 0x4433` while the environment writes 99 over both bytes, after the first access and before the second;
and the same store to the private stack, where it can do nothing (rules R71, R74). -/
theorem test_racing_store :
    let t := fun a => after ((start fullPlatform [0x000044330000026A] [(2, a)] []
      |> fun s => { s with env := [⟨[], [[(a.toNat, 0x99), (a.toNat + 1, 0x99)]], [0, 1]⟩] }))
    (t 0x30001000).mem = [(0x30001000, 0x99), (0x30001001, 0x44)] ∧
    (t 0x100001F8).mem = [(0x100001F8, 0x33), (0x100001F9, 0x44)] := by decide

/-- An atomic is not interleaved (rule R77). -/
theorem test_racing_atomic : (after ((start fullPlatform [0x00000000000021C3] [(1, 0x30001000), (2, 1)]
      [(0x30001000, 1), (0x30001001, 0), (0x30001002, 0), (0x30001003, 0)]
      |> fun s => { s with env := [⟨[], [[(0x30001000, 0x99)]], []⟩] }))).mem =
    [(0x30001000, 2), (0x30001001, 0), (0x30001002, 0), (0x30001003, 0)] := by decide

/-- The platform of the address vectors is as the spec asks; not so with a map or a variable that is no region. -/
theorem test_platform_wf : fullPlatform.wf = true ∧
    ({ fullPlatform with mva := [(0x30000000, 0x20000010)] } : Config).wf = false ∧
    ({ fullPlatform with variableAddr := [(3, 0x40000019)] } : Config).wf = false := by decide

theorem test_reset_runs_the_placed_word :
    (after (State.reset.withFetchWord 64 0x0000002A000001B7)).reg 1 = .value 0x2A := by decide

/-! ## Witnesses: the hypotheses of each obligation are met -/

/-- A running machine on the full platform, R0 to R9 set, about to run these words. -/
def ready (ws : List Word) : State := start fullPlatform ws callRegs []

/-- The same with R1 at the shared region, about to make a step in which the environment has one move to make. -/
def racing : State := { (ready []).write 1 0x30001000 with during := [[(0x30001000, 0x99)]], times := [0] }

theorem test_witness_StepRunsTheDecodedInstruction :
    RunsWord (ready [0x95]) 0x95 ∧ decode .offset 0x95 (ready [0x95]).text[1]? = .ok .exit := ⟨⟨rfl, rfl⟩, rfl⟩

theorem test_witness_FetchFaults :
    ((ready []).setPc 4).status = .running ∧ ((ready []).setPc 4).text[4]? = none ∧ RunsWord (ready [0]) 0 ∧
    decode .offset 0 (ready [0]).text[1]? = .error .secondSlot := ⟨rfl, rfl, ⟨rfl, rfl⟩, rfl⟩

theorem test_witness_HaltedMachineHasNoStep :
    ({ ready [] with status := .exited 5 } : State).status = .exited 5 ∧
    ({ ready [] with status := .faulted (.callDepthExceeded 0) } : State).status = .faulted (.callDepthExceeded 0) :=
  ⟨rfl, rfl⟩

theorem test_witness_ResetHasTheInvariants : ([0x95] : List Word) ≠ [] ∧ Memory.wf (eight [1, 2]) := by decide

/-- Inside a function, at the greatest depth the limit allows, with an exit to run. -/
def inFunction : State :=
  { (ready [0x0000000000021085, 0x95]) with
    pc := 1, callStack := [⟨1, .value 6, .noValue, .value 8, .value 9, 0x10000200⟩],
    cfg := { fullPlatform with maxCallDepth := some 1 } }.write 10 0x10000100

theorem test_witness_StepKeepsTheInvariant : Inv inFunction ∧ ∃ t, step inFunction = .next t :=
  ⟨⟨by decide, .inl (by decide), ⟨_, rfl⟩, fun d h => by cases h; decide, by decide⟩, _, rfl⟩

theorem test_witness_StepKeepsTheFramePointers : FramePointers inFunction ∧ ∃ t, step inFunction = .next t :=
  ⟨⟨by decide, by decide, trivial⟩, _, rfl⟩

theorem test_witness_StepNeverChangesProgramOrParameters : ∃ t, step (ready [0x95]) = .next t := ⟨_, rfl⟩

/-- A byte just past the stack and one just below it lie in no region. -/
theorem test_witness_MemoryOutsideRegionsNeverChanges : (∃ t, step (ready [0x95]) = .next t) ∧
    inSomeRegion (ready [0x95]).cfg 0x10000200 = false ∧ inSomeRegion (ready [0x95]).cfg 0x0FFFFFFF = false :=
  ⟨⟨_, rfl⟩, by decide, by decide⟩

theorem test_witness_ReadOnlyPrivateMemoryNeverChanges : (∃ t, step (ready [0x95]) = .next t) ∧
    (∀ i, fetch (ready [0x95]).betweenSteps = .ok i → i.isHelperCall = false) ∧
    (∀ g ∈ (ready [0x95]).cfg.allRegions, g.containsRange 0x2000000F 1 = true → g.writable = false ∧ g.shared = false) :=
  ⟨⟨_, rfl⟩, fun i h => by
    have : Except.ok Instr.exit = Except.ok i := (show fetch (ready [0x95]).betweenSteps = .ok .exit from rfl).symm.trans h
    cases this; rfl, by decide⟩

theorem test_witness_EnvironmentTouchesOnlySharedMemory :
    (∃ g ∈ (ready []).cfg.allRegions, g.containsRange 0x20000010 1 = true ∧ g.shared = false) ∧
    (∀ g ∈ (ready []).cfg.allRegions, g.containsRange 0x20000018 1 = false) := by decide

/-- Its clause on what a byte reads as: `stw [r10-8], 1` runs; a byte beside the four it stores to that is listed, and
the first byte past the stack. -/
theorem test_witness_private_bytes_keep : ∃ s : State, RunsWord s 0x00000001FFF80A62 ∧
    decode s.cfg.localCallField 0x00000001FFF80A62 s.text[s.pc + 1]? = .ok (.stw 10 0xFFF8 1) ∧
    (Instr.stw 10 0xFFF8 1).isHelperCall = false ∧
    storedRange (.stw 10 0xFFF8 1) s.betweenSteps = some (0x100001F8, 4) ∧
    Outside 0x100001FC 0x100001F8 4 ∧ Memory.lookup s.mem 0x100001FC ≠ none ∧
    Outside 0x10000200 0x100001F8 4 ∧ s.cfg.stackRegion.containsRange 0x10000200 1 = false ∧ ∃ t, step s = .next t :=
  ⟨{ ready [0x00000001FFF80A62, 0x95] with mem := [(0x100001FC, 7)] }, ⟨rfl, rfl⟩, rfl, rfl, by decide, .inr (by decide),
    by decide, .inr (by decide), by decide, _, rfl⟩

/-- Which unwritten bytes are draws (rule R62): those of the stack and of a shared region, to their last byte. -/
theorem test_drawn_bytes : (∀ a ∈ [0x10000000, 0x100001FF, 0x30001000, 0x3000100F], isDrawn fullPlatform a = true) ∧
    ∀ a ∈ [0x0FFFFFFF, 0x10000200, 0x20000000, 0x20000017, 0x30000FFF, 0x30001010, 0x4000001F],
      isDrawn fullPlatform a = false := by decide

theorem test_witness_FrameOfRegisters : (∃ t, exec (.add64Imm 1 5) (ready []) = .next t) ∧
    (2 : Reg) ∉ (Instr.add64Imm 1 5).writes ∧ (∃ t, exec (.atomicFetchAdd64 10 1 0xFFF8) (ready []) = .next t) ∧
    (2 : Reg) ∉ (Instr.atomicFetchAdd64 10 1 0xFFF8).writes := ⟨⟨_, rfl⟩, by decide, ⟨_, rfl⟩, by decide⟩

/-- The bytes next to the four that `stw [r10-8], 1` stores to; and a plain store to the shared region, with the last
shared byte outside it. -/
theorem test_witness_FrameOfMemory : (∃ t, exec (.stw 10 0xFFF8 1) (ready []) = .next t) ∧
    (Instr.stw 10 0xFFF8 1).isHelperCall = false ∧
    storedRange (.stw 10 0xFFF8 1) (ready []) = some (0x100001F8, 4) ∧ Outside 0x100001F7 0x100001F8 4 ∧
    Outside 0x100001FC 0x100001F8 4 ∧ racesEnvironment (.stw 10 0xFFF8 1) (ready []) = false ∧
    (∃ t, exec (.stw 1 0 1) racing = .next t) ∧ racesEnvironment (.stw 1 0 1) racing = true ∧
    storedRange (.stw 1 0 1) racing = some (0x30001000, 4) ∧ Outside 0x3000100F 0x30001000 4 ∧
    inSharedRegion racing.cfg 0x3000100F = true ∧ inSharedRegion racing.cfg 0x30001010 = false :=
  ⟨⟨_, rfl⟩, rfl, by decide, .inl (by decide), .inr (by decide), by decide, ⟨_, rfl⟩, by decide, by decide,
    .inr (by decide), by decide, by decide⟩

theorem test_witness_FrameOfCallStackAndHiddenState : (∃ t, exec (.stw 10 0xFFF8 1) (ready []) = .next t) ∧
    (Instr.stw 10 0xFFF8 1).usesCallStack = false := ⟨⟨_, rfl⟩, rfl⟩

theorem test_witness_StatusChangesOnlyByFaultOrExit :
    (∃ t, exec .exit (ready []) = .next t) ∧ (∃ t, exec (.ja 9) (ready []) = .next t) := ⟨⟨_, rfl⟩, _, rfl⟩

theorem test_witness_DecodeOfEncode : (Instr.callLocal 0x8000 0).wf .offset = true ∧
    (Instr.callLocal 0 0x80000000).wf .imm = true ∧ (Instr.lddw 9 0xFFFFFFFF 0xFFFFFFFF).wf .offset = true := by decide

theorem test_witness_EncodeOfDecode : decode .offset 0x95 none = .ok .exit ∧
    decode .imm 0x0000000200001085 none = .ok (.callLocal 0 2) ∧
    decode .offset 0x0000000500000118 (some 0x0000000700000000) = .ok (.lddw 1 5 7) := by decide

theorem test_witness_OpcodeZeroIsIllegal : RunsWord (ready [0x500]) 0x500 ∧ (Fields.ofWord 0x500).opcode = 0x00 :=
  ⟨⟨rfl, rfl⟩, by decide⟩

theorem test_witness_UndefinedOpcodesAreIllegal : RunsWord (ready [0xCB]) 0xCB ∧
    (Fields.ofWord 0xCB).opcode.toNat ∉ definedOpcodes := ⟨⟨rfl, rfl⟩, by decide⟩

theorem test_witness_UndefinedSelectorsAreIllegal : RunsWord (ready [0x11000001D4]) 0x11000001D4 ∧
    ((Fields.ofWord 0x11000001D4).opcode = 0xd4 ∧ (Fields.ofWord 0x11000001D4).imm.toNat ∉ [16, 32, 64]) ∧
    ((Fields.ofWord 0x02000000C3).opcode = 0xc3 ∧ (Fields.ofWord 0x02000000C3).imm.toNat ∉
      [0x00, 0x01, 0x40, 0x41, 0x50, 0x51, 0xa0, 0xa1, 0xe1, 0xf1]) ∧
    ((Fields.ofWord 0x3085).opcode = 0x85 ∧ (Fields.ofWord 0x3085).src.toNat ∉ [0, 1, 2]) ∧
    ((Fields.ofWord 0x7018).opcode = 0x18 ∧ (Fields.ofWord 0x7018).src.toNat ∉ [0, 1, 2, 3, 4, 5, 6]) :=
  ⟨⟨rfl, rfl⟩, by decide, by decide, by decide, by decide⟩

theorem test_witness_WideInstructionNeedsItsSecondSlot :
    RunsWord ((ready [0x118]).setPc 0) 0x118 ∧ (Fields.ofWord 0x118).opcode = 0x18 ∧
    (∃ v, (ready [0x118, 1]).text[1]? = some v ∧ v.extractLsb' 0 32 ≠ 0) ∧
    (∃ v, (ready [0x5118, 0x100000000]).text[1]? = some v ∧ v.extractLsb' 32 32 ≠ 0 ∧
      (Fields.ofWord 0x5118).src.toNat ∈ [1, 3, 4, 5]) ∧
    RunsWord (State.enter fullPlatform [0x118] [] []) 0x118 ∧ (State.enter fullPlatform [0x118] [] []).text[1]? = none :=
  ⟨⟨rfl, rfl⟩, by decide, ⟨_, rfl, by decide⟩, ⟨_, rfl, by decide, by decide⟩, ⟨rfl, rfl⟩, rfl⟩

theorem test_witness_LegacyOpcodesAreUnsupported : RunsWord (ready [0xFFFFFFFFFFFFFF58]) 0xFFFFFFFFFFFFFF58 ∧
    (Fields.ofWord 0xFFFFFFFFFFFFFF58).opcode.toNat ∈ [0x20, 0x28, 0x30, 0x38, 0x40, 0x48, 0x50, 0x58] :=
  ⟨⟨rfl, rfl⟩, by decide⟩

theorem test_witness_FramePointerIsNeverWritten : decode .offset 0x1B7 none = .ok (.mov64Imm 1 0) ∧
    (Instr.mov64Imm 1 0).usesCallStack = false ∧ (10 : Reg) ∈ (Instr.mov64Imm 10 0).writes ∧
    (10 : Reg) ∈ (Instr.atomicXchg64 1 10 0).writes := by decide

theorem test_witness_ReadingARegister : (ready []).reg 10 = .value 0x10000200 ∧
    (start Config.reference [] [] []).reg 0 = .noValue ∧ Config.reference.uninitPolicy = .fault ∧
    State.reset.reg 0 = .noValue ∧ State.reset.cfg.uninitPolicy = .draw := by decide

/-- R1 cannot be read, R2 can; then R1 can, R2 cannot; then neither R0. -/
theorem test_witness_ReadFaultsInOrder :
    ((10 : Reg) ∉ (Instr.add64Reg 1 2).writes ∧ (Instr.add64Reg 1 2).readsDst = some 1 ∧
      readReg (start Config.reference [] [] []) .dst 1 = .error (.uninitializedRegister 0 1)) ∧
    ((Instr.add64Reg 1 2).readsSrc = some 2 ∧ readReg (start Config.reference [] [(1, 3)] []) .dst 1 = .ok 3 ∧
      readReg (start Config.reference [] [(1, 3)] []) .src 2 = .error (.uninitializedRegister 0 2)) ∧
    ((Instr.mov64Reg 1 2).readsDst = none ∧ (Instr.mov64Reg 1 2).readsSrc = some 2) ∧
    (readReg (start Config.reference [] [(1, 3), (2, 4)] []) .src 2 = .ok 4 ∧
      readReg (start Config.reference [] [(1, 3), (2, 4)] []) .r0 0 = .error (.uninitializedRegister 0 0)) ∧
    (start Config.reference [] [] []).callStack = [] := by decide

/-- For AddSubMul64, AddSubMul32, Bitwise, Negation, MovesDoNotReadTheDestination and ByteSwaps: a destination other
than R10, both registers readable; under the policy of free values a register without a value is readable too. -/
theorem test_witness_arithmetic_operands : (1 : Reg) ≠ 10 ∧ readReg (ready []) .dst 1 = .ok 3 ∧
    readReg (ready []) .src 2 = .ok 4 ∧ readReg (ready []) .src 10 = .ok 0x10000200 := by decide

theorem test_witness_arithmetic_on_a_free_value : ∃ v, readReg State.reset .dst 6 = .ok v := ⟨_, rfl⟩

/-- A divisor that is zero at 32 bits and not at 64, one that is zero at both, one that is zero at neither. -/
theorem test_witness_DivisionAndModulo :
    let s := start Config.reference [] [(1, 7), (2, 0xFFFFFFFF00000000), (3, 0), (4, 1)] []
    (1 : Reg) ≠ 10 ∧ readReg s .dst 1 = .ok 7 ∧ readReg s .src 2 = .ok 0xFFFFFFFF00000000 ∧ readReg s .src 3 = .ok 0 ∧
    readReg s .src 4 = .ok 1 ∧ (0xFFFFFFFF00000000 : Word).toNat % 2 ^ 32 = 0 := by decide

/-- Both byte orders, as ByteSwaps distinguishes them. -/
theorem test_witness_ByteSwaps : (1 : Reg) ≠ 10 ∧ readReg (ready []) .dst 1 = .ok 3 ∧
    (ready []).cfg.byteOrder = .le ∧ (start bigEndian [] [(1, 3)] []).cfg.byteOrder = .be ∧
    readReg (start bigEndian [] [(1, 3)] []) .dst 1 = .ok 3 := by decide

/-- The amounts 63 and 64 under both policies. -/
theorem test_witness_Shifts64 : readReg (ready []) .dst 1 = .ok 3 ∧
    ShiftBy Config.reference 64 63 63 ∧ ShiftBy Config.reference 64 64 0 ∧
    ShiftBy { Config.reference with shiftPolicy := .refuse } 64 63 63 ∧
    ({ Config.reference with shiftPolicy := .refuse } : Config).shiftPolicy = .refuse ∧ 64 ≤ 64 :=
  ⟨rfl, .inl ⟨rfl, rfl⟩, .inl ⟨rfl, rfl⟩, .inr ⟨rfl, by decide, rfl⟩, rfl, le_refl _⟩

/-- The amounts 31 and 32 under both policies. -/
theorem test_witness_Shifts32 : readReg (ready []) .dst 1 = .ok 3 ∧
    ShiftBy Config.reference 32 31 31 ∧ ShiftBy Config.reference 32 32 0 ∧
    ShiftBy { Config.reference with shiftPolicy := .refuse } 32 31 31 ∧ 32 ≤ 32 :=
  ⟨rfl, .inl ⟨rfl, rfl⟩, .inl ⟨rfl, rfl⟩, .inr ⟨rfl, by decide, rfl⟩, le_refl _⟩

/-- For UnconditionalJump and every completion: the last slot of the program and the one after it, slot 0 and the one before it, as targets of a jump. -/
theorem test_witness_jump_targets : InProgram (ready []) 3 ∧ ¬ InProgram (ready []) 4 ∧ InProgram (ready []) 0 ∧
    ¬ InProgram (ready []) (-1) ∧ (ready []).pc + 1 + (2 : BitVec 16).toInt = 3 ∧
    (ready []).pc + 1 + (0xFFFE : BitVec 16).toInt = -1 :=
  ⟨by unfold InProgram; decide, by unfold InProgram; decide, by unfold InProgram; decide,
    by unfold InProgram; decide, by decide, by decide⟩

/-- For ConditionalJumps64 and ConditionalJumps32: each condition holds for some readable operands and not for others
(3 and 3, 3 and 4, 4 and 3, with and without a common bit, and across the sign). -/
theorem test_witness_ConditionalJumps : readReg (ready []) .dst 1 = .ok 3 ∧ readReg (ready []) .src 1 = .ok 3 ∧
    readReg (ready []) .dst 2 = .ok 4 ∧ readReg (ready []) .src 2 = .ok 4 ∧
    ((3 : Word).toNat = 3 ∧ (3 : Word).toNat ≠ (4 : Word).toNat) ∧
    ((4 : Word).toNat > (3 : Word).toNat ∧ ¬ (3 : Word).toNat > (3 : Word).toNat) ∧
    ((3 : Word).toNat ≥ (3 : Word).toNat ∧ ¬ (3 : Word).toNat ≥ (4 : Word).toNat) ∧
    ((3 : Word).toNat &&& (3 : Word).toNat ≠ 0 ∧ ¬ (3 : Word).toNat &&& (4 : Word).toNat ≠ 0) ∧
    ((3 : Word).toInt > (-1 : Word).toInt ∧ ¬ (-1 : Word).toInt > (3 : Word).toInt) := by decide

/-- Arity 0 and arity 2 in one space, arity 1 in the other; a computed answer, a recorded one, a free one. -/
theorem test_witness_HelperCalls : readRegs (ready []) .arg (argRegs.take 2) = .ok [3, 4] ∧
    helperOf (ready []).cfg .agnostic (1 : BitVec 32).toInt =
      some ⟨2, .computes (.op .add (.arg 0) (.arg 1)) []⟩ ∧
    readRegs (ready []) .arg (argRegs.take 0) = .ok [] ∧
    helperOf (ready []).cfg .agnostic (4 : BitVec 32).toInt =
      some ⟨0, .answers [((ready []).betweenSteps.draws, ⟨5, [(0x100001F8, 9), (0x10000200, 9)]⟩)]⟩ ∧
    readRegs (ready []) .arg (argRegs.take 1) = .ok [3] ∧
    helperOf (ready []).cfg .agnostic (3 : BitVec 32).toInt = some ⟨1, .free⟩ ∧
    helperOf (ready []).cfg .platform (1 : BitVec 32).toInt =
      some ⟨1, .computes (.op .mul (.arg 0) (.const 2)) []⟩ ∧ (ready []).cfg.hasPlatformHelpers = true ∧
    readReg (ready []) .arg 1 = .ok 3 ∧ readReg (ready []) .arg 2 = .ok 4 ∧
    inSomeRegion (ready []).cfg 0x100001FF = true ∧ inSomeRegion (ready []).cfg 0x10000200 = false := by
  decide

theorem test_witness_UnknownHelpers : helperArity (ready []).cfg .agnostic (0xFFFFFFFF : BitVec 32).toInt = none ∧
    (ready []).cfg.hasPlatformHelpers = true ∧ helperArity (ready []).cfg .platform (7 : BitVec 32).toInt = none := by
  decide

/-- No platform helpers; and R1 or R2 of a helper of arity 2, R1 of one of arity 1, without a value. -/
theorem test_witness_HelperCallTraps : Config.reference.hasPlatformHelpers = false ∧
    helperArity helperPlatform .agnostic (1 : BitVec 32).toInt = some 2 ∧ 0 < (2 : Fin 6).val ∧ 1 < (2 : Fin 6).val ∧
    readReg (start helperPlatform [] [] []) .arg argRegs[0] = .error (.uninitializedRegister 0 1) ∧
    readReg (start helperPlatform [] [(1, 3)] []) .arg argRegs[0] = .ok 3 ∧
    readReg (start helperPlatform [] [(1, 3)] []) .arg argRegs[1] = .error (.uninitializedRegister 0 2) ∧
    helperArity helperPlatform .platform (1 : BitVec 32).toInt = some 1 ∧ helperPlatform.hasPlatformHelpers = true := by
  decide

/-- Depth 0 with a limit of 1 and without a limit, both distance fields, and a distance field that must be zero. -/
theorem test_witness_LocalCall : readReg (ready []) .frame 10 = .ok 0x10000200 ∧
    ((ready []).cfg.localCallField = .offset ∧ (0 : BitVec 32) = 0 ∧ (2 : Int) = (2 : BitVec 16).toInt) ∧
    (∀ m, (some 1 : Option Nat) = some m → (ready []).callStack.length < m) ∧
    (∀ m, (none : Option Nat) = some m → (ready []).callStack.length < m) ∧
    ({ fullPlatform with localCallField := .imm } : Config).localCallField = .imm ∧
    (-1 : Int) = (0xFFFFFFFF : BitVec 32).toInt ∧ (1 : BitVec 32) ≠ 0 :=
  ⟨by decide, by decide, (fun m h => by cases h; decide), (fun m h => by cases h), rfl, by decide, by decide⟩

theorem test_witness_CallDepthLimit : inFunction.reg 10 = .value 0x10000100 ∧
    inFunction.cfg.localCallField = .offset ∧ inFunction.cfg.maxCallDepth = some 1 ∧
    inFunction.callStack.length = 1 ∧
    ({ fullPlatform with maxCallDepth := none } : Config).maxCallDepth = none ∧
    (∃ t, exec (.callLocal 2 0) (start { fullPlatform with maxCallDepth := none } [] callRegs []) = .next t) ∧
    (∃ t, exec (.ja 9) (start { fullPlatform with maxCallDepth := none } [] callRegs []) = .next t) ∧
    (∃ t, step (start { fullPlatform with maxCallDepth := none } [0x21085] callRegs []) = .next t) ∧
    ∀ off imm, Instr.ja 9 ≠ .callLocal off imm :=
  ⟨by decide, rfl, rfl, rfl, rfl, ⟨_, rfl⟩, ⟨_, rfl⟩, ⟨_, rfl⟩, fun _ _ h => by cases h⟩

theorem test_witness_ExitEndsOrReturns : (ready []).callStack = [] ∧ readReg (ready []) .r0 0 = .ok 0xA0 ∧
    inFunction.callStack = [⟨1, .value 6, .noValue, .value 8, .value 9, 0x10000200⟩] := by decide

/-- The state after the call of slot 0 is running, and so is the one after the exit it leads to. -/
theorem test_witness_CallThenReturnRestoresTheCaller :
    let s := ready [0x0000000000021085]
    s.status = .running ∧ s.reg 10 = .value 0x10000200 ∧
    ∃ t u, exec (.callLocal 2 0) s = .next t ∧ t.status = .running ∧ exec .exit t = .next u ∧ u.status = .running :=
  ⟨by decide, by decide, _, _, rfl, by decide, rfl, by decide⟩

/-- The last bytes of the stack, at every width; the read-only region's last byte; the last four bytes of the shared
region, with an environment move in the step, and those of the stack, which are not shared. -/
theorem test_witness_Loads : (1 : Reg) ≠ 10 ∧ readReg (ready []) .src 10 = .ok 0x10000200 ∧
    checkAccess (ready []) .read (0x10000200 + (0xFFF8 : BitVec 16).signExtend 64) 8 = .ok () ∧
    checkAccess (ready []) .read (0x10000200 + (0xFFFC : BitVec 16).signExtend 64) 4 = .ok () ∧
    checkAccess (ready []) .read (0x10000200 + (0xFFFE : BitVec 16).signExtend 64) 2 = .ok () ∧
    checkAccess (ready []) .read (0x10000200 + (0xFFFF : BitVec 16).signExtend 64) 1 = .ok () ∧
    checkAccess (ready []) .read 0x2000000F 1 = .ok () ∧ readReg racing .src 1 = .ok 0x30001000 ∧
    checkAccess racing .read (0x30001000 + (12 : BitVec 16).signExtend 64) 4 = .ok () ∧
    sharedAccess racing 0x3000100C 4 = true ∧ racing.during.length = 1 ∧
    sharedAccess (ready []) 0x100001FC 4 = false := by decide

theorem test_witness_Stores : readReg (ready []) .dst 10 = .ok 0x10000200 ∧ readReg (ready []) .src 2 = .ok 4 ∧
    checkAccess (ready []) .write (0x10000200 + (0xFFF8 : BitVec 16).signExtend 64) 8 = .ok () ∧
    checkAccess (ready []) .write (0x10000200 + (0xFFFC : BitVec 16).signExtend 64) 4 = .ok () ∧
    checkAccess (ready []) .write (0x10000200 + (0xFFFE : BitVec 16).signExtend 64) 2 = .ok () ∧
    checkAccess (ready []) .write (0x10000200 + (0xFFFF : BitVec 16).signExtend 64) 1 = .ok () ∧
    Outside 0x100001F7 0x100001F8 8 ∧ Outside 0x10000200 0x100001F8 8 ∧ readReg racing .dst 1 = .ok 0x30001000 ∧
    checkAccess racing .write (0x30001000 + (12 : BitVec 16).signExtend 64) 4 = .ok () ∧
    sharedAccess racing 0x3000100C 4 = true ∧ racing.during.length = 1 :=
  ⟨by decide, by decide, by decide, by decide, by decide, by decide, .inl (by decide), .inr (by decide), by decide,
    by decide, by decide, by decide⟩

/-- The highest address at which a value of 8 or 4 bytes fits, the last byte of the 8, in both byte orders. -/
theorem test_witness_MixedWidthAccesses : 8 ≤ 8 ∧ 7 < 8 ∧ 7 + 1 ≤ 8 ∧ 0 + 8 ≤ 8 ∧ (0xFFFFFFFFFFFFFFF8 : Word).toNat + 8 ≤ 2 ^ 64 ∧
    (0xFFFFFFFFFFFFFFFC : Word).toNat + 4 ≤ 2 ^ 64 ∧ (ready []).cfg.byteOrder = .le ∧
    (start bigEndian [] [] []).cfg.byteOrder = .be := by decide

/-- Admitted, unmapped across two adjacent regions, and without the right. -/
theorem test_witness_AdmissionByRegions : (ready []).cfg.regionsWf = true ∧ 0 < 8 ∧
    (0x20000010 : Word).toNat + 8 ≤ 2 ^ 64 ∧
    checkAccess (ready []) .write 0x20000010 8 = .ok () ∧
    checkAccess (ready []) .read 0x2000000C 8 = .error (.memoryFault 0 0x2000000C 8 .read .unmapped) ∧
    checkAccess (ready []) .write 0x20000008 8 = .error (.memoryFault 0 0x20000008 8 .write .permission) ∧
    mustAlign (ready []).cfg .atomic = true ∧ (0x30000000 : Word).toNat % 8 = 0 := by decide

/-- A misaligned address, the lowest address at which 8 bytes pass 2^64, both policies. -/
theorem test_witness_AlignmentAndWrapChecks : (0x10000001 : Word).toNat % 8 ≠ 0 ∧
    ({ Config.reference with alignPolicy := .strict } : Config).alignPolicy = .strict ∧
    Config.reference.alignPolicy = .reference ∧ AccessKind.read ≠ .atomic ∧
    2 ^ 64 < (0xFFFFFFFFFFFFFFF9 : Word).toNat + 8 ∧ (0xFFFFFFFFFFFFFFFC : Word).toNat % 4 = 0 ∧
    (0xFFFFFFFFFFFFFFF8 : Word).toNat % 8 = 0 ∧ 2 ^ 64 < (0xFFFFFFFFFFFFFFF8 : Word).toNat + 16 ∧
    (0xFFFFFFFFFFFFFFF0 : Word).toNat % 24 = 0 ∧ 2 ^ 64 < (0xFFFFFFFFFFFFFFF0 : Word).toNat + 24 := by decide

/-- R10 as the base: one byte past the stack, for a load, a store and an atomic; a misaligned atomic. -/
theorem test_witness_AccessFaultsEndTheInstruction : readReg (ready []) .src 10 = .ok 0x10000200 ∧
    readReg (ready []) .dst 10 = .ok 0x10000200 ∧ readReg (ready []) .src 2 = .ok 4 ∧
    readReg (ready []) .r0 0 = .ok 0xA0 ∧ (1 : Reg) ≠ 10 ∧
    checkAccess (ready []) .read (0x10000200 + (0 : BitVec 16).signExtend 64) 1 =
      .error (.memoryFault 0 0x10000200 1 .read .unmapped) ∧
    checkAccess (ready []) .write (0x10000200 + (0 : BitVec 16).signExtend 64) 1 =
      .error (.memoryFault 0 0x10000200 1 .write .unmapped) ∧
    checkAccess (ready []) .atomic (0x10000200 + (0xFFFA : BitVec 16).signExtend 64) 4 =
      .error (.memoryFault 0 0x100001FA 4 .atomic .misaligned) := by decide

/-- For SimpleAtomics and FetchingAtomics: the last aligned places of the stack. -/
theorem test_witness_atomics : readReg (ready []) .dst 10 = .ok 0x10000200 ∧ readReg (ready []) .src 2 = .ok 4 ∧
    (2 : Reg) ≠ 10 ∧ checkAccess (ready []) .atomic (0x10000200 + (0xFFFC : BitVec 16).signExtend 64) 4 = .ok () ∧
    checkAccess (ready []) .atomic (0x10000200 + (0xFFF8 : BitVec 16).signExtend 64) 8 = .ok () := by decide

/-- A compare-and-exchange that matches and one that does not, at both widths. -/
theorem test_witness_CompareAndExchange :
    let s := start Config.reference [] [(0, 0xF00000005), (2, 9)] (eight [5, 0, 0, 0, 0xF, 0, 0, 0])
    readReg s .dst 10 = .ok 0x10000200 ∧ readReg s .src 2 = .ok 9 ∧ readReg s .r0 0 = .ok 0xF00000005 ∧
    checkAccess s .atomic 0x100001F8 8 = .ok () ∧ checkAccess s .atomic 0x100001FC 4 = .ok () ∧
    (s.load 0x100001F8 4).toNat = (0xF00000005 : Word).toNat % 2 ^ 32 ∧
    (s.load 0x100001FC 4).toNat ≠ (0xF00000005 : Word).toNat % 2 ^ 32 ∧
    (s.load 0x100001F8 8).toNat = (0xF00000005 : Word).toNat ∧
    (s.load 0x100001F8 8).toNat ≠ (0x8000000F00000005 : Word).toNat := by decide

theorem test_witness_LoadOfA64BitImmediate : (9 : Reg) ≠ 10 ∧ InProgram (ready []) ((ready []).pc + 2) :=
  ⟨by decide, by unfold InProgram; decide⟩

/-- Keys 3 (defined) and 4 (not), the features on and off; the code address of the last slot, of one that is no
program slot, and of the second slot of a wide instruction. -/
theorem test_witness_PlatformAddressLoads : (1 : Reg) ≠ 10 ∧
    (fullPlatform.hasMaps = true ∧ fullPlatform.hasMapFd = true ∧ fullPlatform.hasVariables = true) ∧
    fullPlatform.mapByFd.lookup 3 = some 0x30000000 ∧ fullPlatform.mapByFd.lookup 4 = none ∧
    fullPlatform.mva.lookup 0x30000000 = some 0x30001000 ∧ fullPlatform.variableAddr.lookup 3 = some 0x40000018 ∧
    fullPlatform.mapByIdx.lookup 3 = some 0x30000000 ∧ fullPlatform.codeAddr.lookup 4 = some 0x50000020 ∧
    (ready [0x95]).text.length = 5 ∧ isSecondSlot (ready [0x95]).text 4 = false ∧
    isSecondSlot (ready [0x118, 0]).text 1 = true ∧ Config.reference.hasMaps = false := by decide

/-- The last byte of the region of the map, and the first one past it. -/
theorem test_witness_PlatformAddressesPointIntoRegions : (1 : Reg) ≠ 10 ∧ (ready []).cfg.wf = true ∧
    (ready []).cfg.hasVariables = true ∧ (ready []).cfg.variableAddr.lookup 3 = some 0x40000018 ∧
    (ready []).cfg.hasMaps = true ∧ (ready []).cfg.hasMapFd = true ∧
    (ready []).cfg.mva.lookup 0x30000000 = some 0x30001000 ∧ (ready []).cfg.mapByFd.lookup 3 = some 0x30000000 ∧
    (ready []).cfg.mapByIdx.lookup 3 = some 0x30000000 ∧
    (⟨0x30001000, 16, true, true, true⟩ : Region) ∈ (ready []).cfg.allRegions ∧
    (15 : BitVec 32).toNat < 16 ∧ ¬ (16 : BitVec 32).toNat < 16 := by decide

end Sys2Proof.Tests
end

/-! Proofs about the machine's state: entry, what a step and an instruction leave, and the invariants every step keeps.
What an instruction can leave is taken from `exec_shape`; only the refusal of R10 in a written position looks at the
instructions one by one. -/

namespace Sys2Proof.Machine

/-! ## Fetch and step -/

theorem fetch_of_no_slot {s : State} (h : s.text[s.pc]? = none) : fetch s = .error (.pcOutOfRange s.pc s.pc) := by
  simp [fetch, h]

theorem fetch_of_decode {s : State} {w : Word} {i : Instr} (hw : s.text[s.pc]? = some w)
    (hd : decode s.cfg.localCallField w s.text[s.pc + 1]? = .ok i) : fetch s = .ok i := by
  simp [fetch, hw, hd]

theorem fetch_of_decode_error {s : State} {w : Word} {e : DecodeError} (hw : s.text[s.pc]? = some w)
    (hd : decode s.cfg.localCallField w s.text[s.pc + 1]? = .error e) :
    fetch s = .error (.illegalInstruction s.pc w) := by
  simp [fetch, hw, hd]

/-- Fetching reads the program, `pc` and the parameters, none of which the environment writes (rules R74, R78). -/
@[simp] theorem fetch_betweenSteps (s : State) : fetch s.betweenSteps = fetch s := by simp [fetch]

theorem step_of_fetch_ok {s : State} {i : Instr} (hr : s.status = .running) (hf : fetch s = .ok i) :
    step s = exec i s.betweenSteps := by
  simp [step, hr, hf]

theorem step_of_fetch_error {s : State} {f : Fault} (hr : s.status = .running) (hf : fetch s = .error f) :
    step s = .next (raise f s.betweenSteps) := by
  simp [step, hr, hf]

theorem step_of_exited {s : State} {v : Word} (h : s.status = .exited v) : step s = .refused .runExited := by
  simp [step, h]

theorem step_of_faulted {s : State} {f : Fault} (h : s.status = .faulted f) : step s = .fault f := by
  simp [step, h]

/-- All a step that answers a next state can do: raise a fault of the fetch, or execute an instruction. -/
theorem step_eq_next {s t : State} (h : step s = .next t) :
    (∃ f, t = raise f s.betweenSteps) ∨ ∃ i, exec i s.betweenSteps = .next t := by
  cases hs : s.status with
  | exited v => simp [step_of_exited hs] at h
  | faulted f => simp [step_of_faulted hs] at h
  | running =>
    cases hf : fetch s with
    | error f => exact .inl ⟨f, by simpa [step_of_fetch_error hs hf, eq_comm] using h⟩
    | ok i => exact .inr ⟨i, by rwa [step_of_fetch_ok hs hf] at h⟩

/-- A property of states is kept by every step when the environment, a fault and every instruction keep it. -/
theorem step_keeps {P : State → Prop} (henv : ∀ s, P s → P s.betweenSteps) (hraise : ∀ f s, P s → P (raise f s))
    (hexec : ∀ i s t, P s → exec i s = .next t → P t) {s t : State} (hs : P s) (h : step s = .next t) : P t := by
  obtain ⟨f, rfl⟩ | ⟨i, hi⟩ := step_eq_next h
  · exact hraise f _ (henv s hs)
  · exact hexec i _ t (henv s hs) hi

/-! ## The state at entry -/

theorem reg_enter_of_no_value (cfg : Config) (text : List Word) (mem : List Host.Cell) (env : List EnvStep) {r : Reg}
    (h : r ∈ ([0, 6, 7, 8, 9] : List Reg)) : (State.enter cfg text mem env).reg r = .noValue := by
  simp only [List.mem_cons, List.not_mem_nil, or_false] at h
  rcases h with rfl | rfl | rfl | rfl | rfl <;> rfl

theorem reg_enter_arg (cfg : Config) (text : List Word) (mem : List Host.Cell) (env : List EnvStep) (k : Nat)
    (hk : k < 5) : (State.enter cfg text mem env).reg ⟨k + 1, by omega⟩ = entryContent cfg.entryArgs[k] := by
  match k, hk with
  | 0, _ | 1, _ | 2, _ | 3, _ | 4, _ => rfl

theorem reg_enter_frame (cfg : Config) (text : List Word) (mem : List Host.Cell) (env : List EnvStep) :
    (State.enter cfg text mem env).reg 10 = .value cfg.entryFramePointer := rfl

/-- The frame pointer at depth 0 is the one at entry (rule R35). -/
theorem framePointerAt_zero (c : Config) : framePointerAt c 0 = c.entryFramePointer := by simp [framePointerAt]

/-- One call further down, the frame pointer is FRAME_STRIDE lower (rule R265 (c)). -/
theorem framePointerAt_succ (c : Config) (k : Nat) :
    framePointerAt c (k + 1) = framePointerAt c k - c.frameStride := by
  have one : BitVec.ofNat 64 1 = (1 : Word) := rfl
  simp only [framePointerAt, BitVec.ofNat_add, one, add_mul, one_mul, sub_add_eq_sub_sub]

theorem inv_enter (cfg : Config) (text : List Word) {mem : List Host.Cell} (env : List EnvStep)
    (h : Memory.wf mem) : Inv (State.enter cfg text mem env) := by
  refine ⟨h, ?_, ⟨_, reg_enter_frame cfg text mem env⟩, fun d _ => Nat.zero_le d, fun fr hfr => nomatch hfr⟩
  cases text with
  | nil => exact .inr ⟨rfl, rfl⟩
  | cons w ws => exact .inl (Nat.succ_pos _)

theorem framePointers_enter (cfg : Config) (text : List Word) (mem : List Host.Cell) (env : List EnvStep) :
    FramePointers (State.enter cfg text mem env) :=
  ⟨congrArg RegContent.value (framePointerAt_zero cfg).symm, trivial⟩

/-! ## What an instruction leaves: program, parameters and the model's own fields -/

/-- Text, parameters, draws, the environment's queue, its moves within the step and their times are the same. -/
structure SameHidden (s t : State) : Prop where
  text : t.text = s.text
  cfg : t.cfg = s.cfg
  draws : t.draws = s.draws
  env : t.env = s.env
  during : t.during = s.during
  times : t.times = s.times

/-- No effect of an instruction touches these fields: each has its own lemmas that say so. -/
theorem exec_sameHidden {i : Instr} {s t : State} (h : exec i s = .next t) : SameHidden s t := by
  cases exec_shape h <;> constructor <;> simp

/-! ## What an instruction leaves: registers -/

theorem writes_of_isHelperCall {i : Instr} (h : i.isHelperCall = true) : i.writes = [0, 1, 2, 3, 4, 5] := by
  cases i with
  | callHelper | callPlatform => rfl
  | _ => simp [Instr.isHelperCall] at h

/-- A helper call takes no register's value but those of R0 to R5 (rule R262). -/
theorem reg_applyHelper_frame (s : State) (a : HelperAnswer) {r : Reg} (h : r ∉ ([0, 1, 2, 3, 4, 5] : List Reg)) :
    (applyHelper s a).reg r = s.reg r := by
  simp only [List.mem_cons, not_or] at h
  simp [reg_applyHelper, argRegs, h]

/-- A BPF-local call changes R0 and R6 to R10 alone (rule R264). -/
theorem reg_pushFrame_frame (s : State) (fp : Word) {r : Reg} (h : r ∉ ([0, 6, 7, 8, 9, 10] : List Reg)) :
    (pushFrame s fp).reg r = s.reg r := by
  simp only [List.mem_cons, not_or] at h
  simp [reg_pushFrame, h]

/-- A return leaves R0 (rule R266). -/
theorem reg_popFrame_frame (s : State) (fr : Frame) (rest : List Frame) {r : Reg}
    (h : r ∉ ([1, 2, 3, 4, 5, 6, 7, 8, 9, 10] : List Reg)) : (popFrame s fr rest).reg r = s.reg r := by
  simp only [List.mem_cons, not_or] at h
  simp [reg_popFrame, argRegs, h]

theorem exec_reg_frame {i : Instr} {s t : State} {r : Reg} (h : exec i s = .next t) (hr : r ∉ i.writes) :
    t.reg r = s.reg r := by
  have ne {d : Reg} (hd : d ∈ i.writes) : r ≠ d := fun e => hr (e ▸ hd)
  cases exec_shape h with
  | raised | jumped | exited => rfl
  | wrote d v k _ hd => simp [reg_write_of_ne _ _ (ne hd)]
  | loaded _ _ _ _ d _ _ _ _ _ _ hd => simp [reg_write_of_ne _ _ (ne hd)]
  | storedPlain | stored => simp
  | storedWrote _ _ _ _ _ d _ _ _ _ _ _ hd => simp [reg_write_of_ne _ _ (ne hd)]
  | helped a k hi => simpa using reg_applyHelper_frame s a (writes_of_isHelperCall hi ▸ hr)
  | pushed off imm fp k hi => subst hi; simpa using reg_pushFrame_frame s fp hr
  | popped fr rest hi => subst hi; simpa using reg_popFrame_frame s fr rest hr

/-! ## What an instruction leaves: R10 and the call stack -/

/-- What executing `i` does to R10 and the call stack: nothing, or a BPF-local call pushes a frame, or a return pops
one (rules R44, R264, R266). -/
inductive FrameChange (i : Instr) (s t : State) : Prop where
  | kept : t.reg 10 = s.reg 10 → t.callStack = s.callStack → FrameChange i s t
  | pushed (fp : Word) : i.usesCallStack = true → readReg s .frame 10 = .ok fp → atDepthLimit s = false →
      s.text ≠ [] → t.reg 10 = .value (fp - s.cfg.frameStride) → t.callStack = callerFrame s fp :: s.callStack →
      FrameChange i s t
  | popped (fr : Frame) (rest : List Frame) : i.usesCallStack = true → s.callStack = fr :: rest →
      t.reg 10 = .value fr.s10 → t.callStack = rest → FrameChange i s t

theorem exec_frameChange {i : Instr} {s t : State} (h : exec i s = .next t) : FrameChange i s t := by
  cases exec_shape h with
  | raised | jumped | exited => exact .kept rfl rfl
  | wrote d _ _ hd => exact .kept (by simp [reg_write_of_ne _ _ hd.symm]) (by simp)
  | loaded _ _ _ _ d _ _ _ _ _ hd => exact .kept (by simp [reg_write_of_ne _ _ hd.symm]) (by simp)
  | storedPlain | stored => exact .kept (by simp) (by simp)
  | storedWrote _ _ _ _ _ d _ _ _ _ _ hd => exact .kept (by simp [reg_write_of_ne _ _ hd.symm]) (by simp)
  | helped a => exact .kept (by simpa using reg_applyHelper_frame s a (by decide)) (by simp)
  | pushed off imm fp k hi hfp hd hk =>
    exact .pushed fp (hi ▸ rfl) hfp hd (List.ne_nil_of_length_pos (by omega)) (by simp [reg_pushFrame]) (by simp)
  | popped fr rest hi hs => exact .popped fr rest (hi ▸ rfl) hs (by simp [reg_popFrame, argRegs]) (by simp)

/-! ## What an instruction leaves: memory -/

theorem byteAt_of_mem {s t : State} (hm : t.mem = s.mem) (hc : t.cfg = s.cfg) (hd : t.draws = s.draws) (a : Nat) :
    t.byteAt a = s.byteAt a := by
  simp [State.byteAt, hm, hc, hd]

theorem storedRange_of_stores {i : Instr} {s : State} {b : Reg} {off : BitVec 16} {n : Nat} {base : Word}
    (hi : i.stores = some (b, off, n)) (hb : readReg s .dst b = .ok base) :
    storedRange i s = some ((effectiveAddr base off).toNat, n) := by
  simp [storedRange, hi, hb]

theorem racesEnvironment_of_plainAccess {i : Instr} {s : State} {pos : ReadPos} {b : Reg} {off : BitVec 16} {n : Nat}
    {base : Word} (hi : i.plainAccess = some (pos, b, off, n)) (hb : readReg s pos b = .ok base) :
    racesEnvironment i s = sharedAccess s (effectiveAddr base off) n := by
  simp [racesEnvironment, hi, hb]

/-- The memory of `t` reads at `a` as that of `s`, but for what environment moves that race with the instruction leave
there (rules R71, R74). -/
def ReadsAsBefore (i : Instr) (s t : State) (a : Nat) : Prop :=
  (racesEnvironment i s = false ∨ inSharedRegion s.cfg a = false → t.byteAt a = s.byteAt a) ∧
  (t.byteAt a = s.byteAt a ∨ t.byteAt a = (envLast s.cfg s.during a).getD (s.byteAt a))

theorem readsAsBefore_of_eq {i : Instr} {s t : State} {a : Nat} (h : t.byteAt a = s.byteAt a) :
    ReadsAsBefore i s t a := ⟨fun _ => h, .inl h⟩

/-- A byte that a plain access leaves to the moves within it. -/
theorem readsAsBefore_of_plainAccess {i : Instr} {s t : State} {a : Nat} {pos : ReadPos} {b : Reg} {off : BitVec 16}
    {n : Nat} {base : Word} (hi : i.plainAccess = some (pos, b, off, n)) (hb : readReg s pos b = .ok base)
    (h : t.byteAt a = (envLast s.cfg (movesWithin s (effectiveAddr base off) n) a).getD (s.byteAt a)) :
    ReadsAsBefore i s t a := by
  cases hshared : sharedAccess s (effectiveAddr base off) n with
  | false =>
    rw [movesWithin_of_private hshared, envLast_nil] at h
    exact readsAsBefore_of_eq h
  | true =>
    rw [movesWithin_of_shared hshared] at h
    refine ⟨fun hquiet => ?_, .inr h⟩
    rw [racesEnvironment_of_plainAccess hi hb, hshared] at hquiet
    have hprivate := hquiet.resolve_left (by decide)
    rw [h, envLast_of_not_shared _ hprivate, Option.getD_none]

theorem exec_readsAsBefore {i : Instr} {s t : State} {a : Nat} (h : exec i s = .next t)
    (hcall : i.isHelperCall = false) (hout : ∀ lo n, storedRange i s = some (lo, n) → Outside a lo n) :
    ReadsAsBefore i s t a := by
  cases exec_shape h with
  | raised | wrote | jumped | exited => exact readsAsBefore_of_eq rfl
  | pushed | popped => exact readsAsBefore_of_eq (byteAt_of_mem (by simp) (by simp) (by simp) a)
  | helped _ _ hi => simp [hcall] at hi
  | loaded _ _ _ _ _ _ _ ha hb =>
    exact readsAsBefore_of_plainAccess ha hb (by rw [setPc_byteAt, write_byteAt, envWrites_byteAt])
  | storedPlain _ _ _ _ _ _ hs ha hb =>
    exact readsAsBefore_of_plainAccess ha hb
      (by rw [setPc_byteAt, storeThrough_byteAt_outside _ _ _ _ _ (hout _ _ (storedRange_of_stores hs hb))])
  | stored _ _ _ _ _ _ hs hb =>
    exact readsAsBefore_of_eq
      (by rw [setPc_byteAt, store_byteAt_outside _ _ _ _ (hout _ _ (storedRange_of_stores hs hb))])
  | storedWrote _ _ _ _ _ _ _ _ hs hb =>
    exact readsAsBefore_of_eq
      (by rw [setPc_byteAt, write_byteAt, store_byteAt_outside _ _ _ _ (hout _ _ (storedRange_of_stores hs hb))])

/-- Every instruction keeps memory in canonical form: what it stores lies below 2^64 (rules R62, R65). -/
theorem exec_keeps_wf {i : Instr} {s t : State} (hm : Memory.wf s.mem) (h : exec i s = .next t) :
    Memory.wf t.mem := by
  have below {kind : AccessKind} {addr : Word} {n : Nat} (hc : checkAccess s kind addr n = .ok ()) :
      addr.toNat + n ≤ 2 ^ 64 := (checkAccess_eq_ok hc).2.1
  cases exec_shape h with
  | raised | wrote | jumped | exited => exact hm
  | pushed | popped => simpa using hm
  | helped a => exact applyHelper_wf a hm
  | loaded => exact envWrites_wf _ hm
  | storedPlain _ _ _ _ _ _ _ _ _ hc => exact storeThrough_wf _ _ hm (below hc)
  | stored _ _ _ _ _ _ _ _ hc => exact store_wf _ hm (below hc)
  | storedWrote _ _ _ _ _ _ _ _ _ _ hc => exact store_wf _ hm (below hc)

/-! ## What an instruction leaves: `pc` -/

/-- An instruction that goes on leaves `pc` at a slot of the program; one that ends the run leaves `pc` (rule R46). -/
theorem exec_pc {i : Instr} {s t : State} (h : exec i s = .next t) : t.pc = s.pc ∨ t.pc < s.text.length := by
  cases exec_shape h with
  | raised | exited => exact .inl rfl
  | _ => exact .inr ‹_›

/-! ## The invariant -/

/-- `Inv` does not depend on the fields a fault changes. -/
theorem inv_raise (f : Fault) (s : State) (h : Inv s) : Inv (raise f s) := h

theorem inv_betweenSteps (s : State) (h : Inv s) : Inv s.betweenSteps := by
  obtain ⟨hmem, hrest⟩ := h
  exact ⟨betweenSteps_wf hmem, by simpa using hrest⟩

theorem length_lt_of_not_atDepthLimit {s : State} {d : Nat} (h : atDepthLimit s = false)
    (hd : s.cfg.maxCallDepth = some d) : s.callStack.length < d := by
  simpa [atDepthLimit, hd] using h

theorem inv_exec (i : Instr) (s t : State) (hs : Inv s) (h : exec i s = .next t) : Inv t := by
  obtain ⟨hmem, hpc, hr10, hdepth, hret⟩ := hs
  have same := exec_sameHidden h
  have hpc' : t.pc < t.text.length ∨ (t.text = [] ∧ t.pc = 0) := by
    rw [same.text]
    exact (exec_pc h).elim (fun e => e ▸ hpc) .inl
  refine ⟨exec_keeps_wf hmem h, hpc', ?_⟩
  rw [same.cfg, same.text]
  cases exec_frameChange h with
  | kept hr hc => rw [hr, hc]; exact ⟨hr10, hdepth, hret⟩
  | pushed fp _ _ hlimit htext hr hc =>
    have hlt : s.pc < s.text.length := hpc.resolve_right fun e => htext e.1
    rw [hr, hc]
    exact ⟨⟨_, rfl⟩, fun d hd => length_lt_of_not_atDepthLimit hlimit hd, List.forall_mem_cons.2 ⟨hlt, hret⟩⟩
  | popped fr rest _ hc hr hc' =>
    rw [hc] at hdepth hret
    rw [hr, hc']
    exact ⟨⟨_, rfl⟩, fun d hd => Nat.le_of_succ_le (hdepth d hd), (List.forall_mem_cons.1 hret).2⟩

/-! ## The frame pointers -/

theorem framePointers_raise (f : Fault) (s : State) (h : FramePointers s) : FramePointers (raise f s) := h

theorem framePointers_betweenSteps (s : State) (h : FramePointers s) : FramePointers s.betweenSteps := by
  simpa [FramePointers] using h

theorem framePointers_exec (i : Instr) (s t : State) (hs : FramePointers s) (h : exec i s = .next t) :
    FramePointers t := by
  obtain ⟨hr10, hframes⟩ := hs
  unfold FramePointers
  rw [(exec_sameHidden h).cfg]
  cases exec_frameChange h with
  | kept hr hc => rw [hr, hc]; exact ⟨hr10, hframes⟩
  | pushed fp _ hread _ _ hr hc =>
    have hfp : framePointerAt s.cfg s.callStack.length = fp := by simpa [readReg_value hr10] using hread
    rw [hr, hc, ← hfp, ← framePointerAt_succ]
    exact ⟨rfl, rfl, hframes⟩
  | popped fr rest _ hc hr hc' =>
    rw [hc] at hframes
    obtain ⟨hfr, hrest⟩ := hframes
    rw [hr, hc', hfr]
    exact ⟨rfl, hrest⟩

/-! ## The read-only frame pointer -/

/-- An instruction but a BPF-local call and exit that has R10 in a written position is not well formed, and executing
it stops at the check of that register, its first stage (rules R33, R124; log 12). -/
theorem refused_of_writes_frame {i : Instr} (hc : i.usesCallStack = false) (h : (10 : Reg) ∈ i.writes) :
    (∀ lcf, i.wf lcf = false) ∧ ∀ s, exec i s = .next (raise (illegalHere s) s) := by
  cases i with
  | add32Imm d _ | add32Reg d _ | add64Imm d _ | add64Reg d _ | sub32Imm d _ | sub32Reg d _ | sub64Imm d _
  | sub64Reg d _ | mul32Imm d _ | mul32Reg d _ | mul64Imm d _ | mul64Reg d _ | div32Imm d _ | div32Reg d _
  | div64Imm d _ | div64Reg d _ | or32Imm d _ | or32Reg d _ | or64Imm d _ | or64Reg d _ | and32Imm d _
  | and32Reg d _ | and64Imm d _ | and64Reg d _ | lsh32Imm d _ | lsh32Reg d _ | lsh64Imm d _ | lsh64Reg d _
  | rsh32Imm d _ | rsh32Reg d _ | rsh64Imm d _ | rsh64Reg d _ | neg32 d | neg64 d | mod32Imm d _ | mod32Reg d _
  | mod64Imm d _ | mod64Reg d _ | xor32Imm d _ | xor32Reg d _ | xor64Imm d _ | xor64Reg d _ | mov32Imm d _
  | mov32Reg d _ | mov64Imm d _ | mov64Reg d _ | arsh32Imm d _ | arsh32Reg d _ | arsh64Imm d _ | arsh64Reg d _
  | le16 d | le32 d | le64 d | be16 d | be32 d | be64 d | ldxw d _ _ | ldxh d _ _ | ldxb d _ _ | ldxdw d _ _
  | atomicFetchAdd32 _ d _ | atomicFetchOr32 _ d _ | atomicFetchAnd32 _ d _ | atomicFetchXor32 _ d _
  | atomicXchg32 _ d _ | atomicFetchAdd64 _ d _ | atomicFetchOr64 _ d _ | atomicFetchAnd64 _ d _
  | atomicFetchXor64 _ d _ | atomicXchg64 _ d _ | lddw d _ _ | ldMapFd d _ | ldMapFdValue d _ _ | ldVarAddr d _
  | ldCodeAddr d _ | ldMapIdx d _ | ldMapIdxValue d _ _ =>
    obtain rfl : 10 = d := List.mem_singleton.1 h
    exact ⟨fun _ => rfl, fun _ => rfl⟩
  | callLocal | exit => cases hc
  | callHelper | callPlatform | atomicCmpxchg32 | atomicCmpxchg64 => simp [Instr.writes] at h
  | _ => cases h

/-! ## What the decoder gives is well formed -/

/-- A row's constructor gives a well-formed instruction from the operands `decodeForm` passes to it. -/
def MakesWf (lcf : LocalCallField) : Form → Prop
  | .aluK mk => ∀ d imm, writable d = true → (mk d imm).wf lcf = true
  | .aluX mk => ∀ d r, writable d = true → (mk d r).wf lcf = true
  | .aluUn mk => ∀ d, writable d = true → (mk d).wf lcf = true
  | .swap mk => ∀ d, writable d = true → (mk d).wf lcf = true
  | .ja mk => ∀ off, (mk off).wf lcf = true
  | .jccK mk => ∀ d imm off, (mk d imm off).wf lcf = true
  | .jccX mk => ∀ d r off, (mk d r off).wf lcf = true
  | .callHelper mk => ∀ imm, (mk imm).wf lcf = true
  | .callLocal mk => ∀ off imm, localCallUnusedZero lcf off imm = true → (mk off imm).wf lcf = true
  | .exit mk => mk.wf lcf = true
  | .ldx mk => ∀ d r off, writable d = true → (mk d r off).wf lcf = true
  | .st mk => ∀ d off imm, (mk d off imm).wf lcf = true
  | .stx mk => ∀ d r off, (mk d r off).wf lcf = true
  | .atomic mk => ∀ d r off, (mk d r off).wf lcf = true
  | .atomicFetch mk => ∀ d r off, writable r = true → (mk d r off).wf lcf = true
  | .lddw2 mk => ∀ d imm next, writable d = true → (mk d imm next).wf lcf = true
  | .lddw1 mk => ∀ d imm, writable d = true → (mk d imm).wf lcf = true
  | .legacy mk => ∀ rest, (mk rest).wf lcf = true

section
variable {lcf : LocalCallField} {form : Form}

/-- The checks of the decode procedure establish what the row's constructor needs (rule R116, steps 3 to 5). -/
theorem wf_of_decodeForm {w : Word} {w2 : Option Word} {i : Instr} (hf : MakesWf lcf form)
    (h : decodeForm lcf w w2 form = .ok i) : i.wf lcf = true := by
  cases form with
  | aluK => obtain ⟨d, imm, rfl, hd, -⟩ := decodeForm_aluK h; exact hf d imm hd
  | aluX => obtain ⟨d, r, rfl, hd, -⟩ := decodeForm_aluX h; exact hf d r hd
  | aluUn => obtain ⟨d, rfl, hd, -⟩ := decodeForm_aluUn h; exact hf d hd
  | swap => obtain ⟨d, _, rfl, hd, -⟩ := decodeForm_swap h; exact hf d hd
  | ja => obtain ⟨off, rfl, -⟩ := decodeForm_ja h; exact hf off
  | jccK => obtain ⟨d, imm, off, rfl, -⟩ := decodeForm_jccK h; exact hf d imm off
  | jccX => obtain ⟨d, r, off, rfl, -⟩ := decodeForm_jccX h; exact hf d r off
  | callHelper => obtain ⟨_, imm, rfl, -⟩ := decodeForm_callHelper h; exact hf imm
  | callLocal => obtain ⟨_, off, imm, rfl, hz, -⟩ := decodeForm_callLocal h; exact hf off imm hz
  | exit => obtain ⟨rfl, -⟩ := decodeForm_exit h; exact hf
  | ldx => obtain ⟨d, r, off, rfl, hd, -⟩ := decodeForm_ldx h; exact hf d r off hd
  | st => obtain ⟨d, off, imm, rfl, -⟩ := decodeForm_st h; exact hf d off imm
  | stx => obtain ⟨d, r, off, rfl, -⟩ := decodeForm_stx h; exact hf d r off
  | atomic => obtain ⟨d, r, off, rfl, -⟩ := decodeForm_atomic h; exact hf d r off
  | atomicFetch => obtain ⟨d, r, off, rfl, hr, -⟩ := decodeForm_atomicFetch h; exact hf d r off hr
  | lddw2 => obtain ⟨d, _, imm, next, rfl, hd, -⟩ := decodeForm_lddw2 h; exact hf d imm next hd
  | lddw1 => obtain ⟨d, _, imm, rfl, hd, -⟩ := decodeForm_lddw1 h; exact hf d imm hd
  | legacy => obtain rfl := Except.ok.inj h; exact hf _

/-- Every row of the opcode map does, the rows of a shared opcode too (rules R110, R121). -/
theorem makesWf_of_formOf {f : Fields} (h : formOf f = .ok form) : MakesWf lcf form := by
  unfold formOf callForm immForm leForm beForm atomic32Form atomic64Form at h
  split at h
  all_goals try split at h
  all_goals cases h <;> simp [MakesWf, Instr.wf]

theorem wf_of_decode {w : Word} {w2 : Option Word} {i : Instr} (h : decode lcf w w2 = .ok i) : i.wf lcf = true := by
  obtain ⟨form, hform, hi⟩ := bind_eq_ok.1 h
  exact wf_of_decodeForm (makesWf_of_formOf hform) hi

end

/-! ## The obligations -/

/-- Settles O8: the environment's moves, a fault and every instruction keep `Inv`. -/
theorem stepKeepsTheInvariant : Obligations.StepKeepsTheInvariant :=
  fun _ _ hs h => step_keeps inv_betweenSteps inv_raise inv_exec hs h

/-- Settles O9: the environment's moves, a fault and every instruction keep `FramePointers`. -/
theorem stepKeepsTheFramePointers : Obligations.StepKeepsTheFramePointers :=
  fun _ _ hs h => step_keeps framePointers_betweenSteps framePointers_raise framePointers_exec hs h

/-- Settles O14, from the shape of the instruction's effect. -/
theorem frameOfRegisters : Obligations.FrameOfRegisters := fun _ _ _ _ h hr => exec_reg_frame h hr

/-- Settles O15, from the shape of the instruction's effect. -/
theorem frameOfMemory : Obligations.FrameOfMemory := fun _ _ _ _ h hcall hout => exec_readsAsBefore h hcall hout

/-- Settles O16, from the shape of the instruction's effect. -/
theorem frameOfCallStackAndHiddenState : Obligations.FrameOfCallStackAndHiddenState := by
  intro i s t h
  obtain ⟨htext, hcfg, hdraws, henv, hduring, htimes⟩ := exec_sameHidden h
  refine ⟨htext, hcfg, hdraws, henv, hduring, htimes, fun hi => ?_⟩
  cases exec_frameChange h with
  | kept _ hc => exact hc
  | pushed _ hu => simp [hi] at hu
  | popped _ _ hu => simp [hi] at hu

/-- Settles O27: an instruction with R10 in a written position is not well formed, so the decoder does not give it,
and exec refuses it. -/
theorem framePointerIsNeverWritten : Obligations.FramePointerIsNeverWritten := by
  refine ⟨fun lcf w w2 i h hc h10 => ?_, fun i s hc h10 => (refused_of_writes_frame hc h10).2 s⟩
  have hwf := (refused_of_writes_frame hc h10).1 lcf
  simp [wf_of_decode h] at hwf

/-- Settles O1, register by register. -/
theorem entryState : Obligations.EntryState := by
  intro cfg text mem env
  refine ⟨rfl, rfl, rfl, rfl, rfl, rfl, fun r hr => reg_enter_of_no_value cfg text mem env hr, fun k hk => ?_,
    cfg.entryFramePointer, rfl, BitVec.toNat_ofNat _ _⟩
  rw [reg_enter_arg cfg text mem env k hk]
  cases cfg.entryArgs[k] <;> rfl

/-- Settles O2, by evaluating the fixed state. -/
theorem resetState : Obligations.ResetState := by
  unfold Obligations.ResetState
  decide

/-- Settles O4: the fetch gives the decoded instruction, and the environment has something to do or nothing. -/
theorem stepRunsTheDecodedInstruction : Obligations.StepRunsTheDecodedInstruction := by
  intro s w i ⟨hr, hw⟩ hd
  refine ⟨step_of_fetch_ok hr (fetch_of_decode hw hd), ?_⟩
  unfold State.betweenSteps
  cases s.env <;> rfl

/-- Settles O5: the fault of the fetch is the fault of the step. -/
theorem fetchFaults : Obligations.FetchFaults :=
  ⟨fun _ hr hw => step_of_fetch_error hr (fetch_of_no_slot hw),
    fun _ _ _ => step_of_fetch_error rfl (fetch_of_no_slot rfl),
    fun _ _ _ ⟨hr, hw⟩ hd => step_of_fetch_error hr (fetch_of_decode_error hw hd)⟩

/-- Settles O6: by the status, a step of a halted machine is a refusal or the fault. -/
theorem haltedMachineHasNoStep : Obligations.HaltedMachineHasNoStep :=
  ⟨fun _ _ _ _ => rfl, fun _ _ h t => by simp [step_of_exited h], fun _ _ h t => by simp [step_of_faulted h]⟩

/-- Settles O7: an entry state meets both invariants, and reset is one. -/
theorem resetHasTheInvariants : Obligations.ResetHasTheInvariants :=
  ⟨inv_enter _ _ _ reset_wf, framePointers_enter _ _ _ _,
    fun cfg text mem env _ hm => ⟨inv_enter cfg text env hm, framePointers_enter cfg text mem env⟩⟩

/-- Settles O28, by the content of the register and the policy. -/
theorem readingARegister : Obligations.ReadingARegister := by
  intro s pos r
  refine ⟨fun v h => readReg_value h, fun h hp => ?_, fun h hp => ⟨Config.drawReg s.draws pos r, ?_⟩⟩
  · simp [readReg, h, hp]
  · simp [readReg, h, hp]

end Sys2Proof.Machine

/-! Proofs about data memory: which accesses are admitted, which bytes a step can change, and how stored bytes are
seen by loads of other widths. What an instruction can leave is taken from `exec_shape`. -/

namespace Sys2Proof.Machine

/-! ## Bytes and regions -/

theorem containsRange_iff {g : Region} {a n : Nat} :
    g.containsRange a n = true ↔ g.base ≤ a ∧ a + n ≤ g.base + g.size := by
  simp [Region.containsRange]

/-- A region that contains a range contains each byte of it. -/
theorem containsRange_byte {g : Region} {lo n a : Nat} (h : g.containsRange lo n = true) (hlo : lo ≤ a)
    (hhi : a < lo + n) : g.containsRange a 1 = true := by
  rw [containsRange_iff] at h ⊢
  omega

theorem inSomeRegion_iff {c : Config} {a : Nat} :
    inSomeRegion c a = true ↔ a < 2 ^ 64 ∧ ∃ g ∈ c.allRegions, g.containsRange a 1 = true := by
  simp [inSomeRegion]

theorem inSharedRegion_iff {c : Config} {a : Nat} :
    inSharedRegion c a = true ↔
      inSomeRegion c a = true ∧ ∀ g ∈ c.allRegions, g.containsRange a 1 = true → g.shared = true := by
  simp only [inSharedRegion, Bool.and_eq_true, List.all_eq_true, Bool.or_eq_true, Bool.not_eq_true',
    ← Bool.not_eq_true, imp_iff_not_or]

theorem not_inSharedRegion_of_not_inSomeRegion {c : Config} {a : Nat} (h : inSomeRegion c a = false) :
    inSharedRegion c a = false := by
  simp [inSharedRegion, h]

/-- A byte of some region that is not shared is none the environment may write (rule R74). -/
theorem not_inSharedRegion_of_private {c : Config} {a : Nat} {g : Region} (hg : g ∈ c.allRegions)
    (ha : g.containsRange a 1 = true) (hs : g.shared = false) : inSharedRegion c a = false := by
  rw [← Bool.not_eq_true, inSharedRegion_iff]
  exact fun h => absurd (h.2 g hg ha) (by simp [hs])

/-- A byte that lies in regions not shared alone, if in any, is none the environment may write. -/
theorem not_inSharedRegion_of_all_private {c : Config} {a : Nat}
    (h : ∀ g ∈ c.allRegions, g.containsRange a 1 = true → g.shared = false) : inSharedRegion c a = false := by
  rw [← Bool.not_eq_true]
  intro hshared
  obtain ⟨_, g, hg, ha⟩ := inSomeRegion_iff.1 (inSharedRegion_iff.1 hshared).1
  rw [not_inSharedRegion_of_private hg ha (h g hg ha)] at hshared
  cases hshared

/-! ## What an instruction and a step leave: listed bytes -/

/-- No store and no atomic is admitted to the byte: each region that holds it lacks write permission (rules R63,
R82). -/
def NotStorable (c : Config) (a : Nat) : Prop :=
  a < 2 ^ 64 → ∀ g ∈ c.allRegions, g.containsRange a 1 = true → g.writable = false

theorem notStorable_of_not_inSomeRegion {c : Config} {a : Nat} (h : inSomeRegion c a = false) : NotStorable c a := by
  intro ha g hg hga
  rw [inSomeRegion_iff.2 ⟨ha, g, hg, hga⟩] at h
  cases h

theorem writable_of_permits {g : Region} {kind : AccessKind} (hk : kind ≠ .read) (h : g.permits kind = true) :
    g.writable = true := by
  cases kind with
  | read => exact absurd rfl hk
  | write => exact h
  | atomic => exact (Bool.and_eq_true_iff.1 h).2

/-- The range of an admitted store or atomic holds no byte that is not storable. -/
theorem outside_of_checkAccess {s : State} {kind : AccessKind} {addr : Word} {n a : Nat} (hk : kind ≠ .read)
    (h : checkAccess s kind addr n = .ok ()) (ha : NotStorable s.cfg a) : Outside a addr.toNat n := by
  obtain ⟨-, hwrap, g, hg, hrange, hperm⟩ := checkAccess_eq_ok h
  by_contra hin
  simp only [Outside, not_or, not_lt, not_le] at hin
  obtain ⟨hlo, hhi⟩ := hin
  have hro := ha (by omega) g hg (containsRange_byte hrange hlo hhi)
  rw [writable_of_permits hk hperm] at hro
  cases hro

theorem store_lookup_outside (s : State) (addr : Word) (n : Nat) (v : Word) {q : Nat} (h : Outside q addr.toNat n) :
    Memory.lookup (s.store addr n v).mem q = Memory.lookup s.mem q :=
  lookup_setBytes_outside _ _ _ (by rwa [layout_length])

/-- A byte that neither the environment may write nor a store is admitted to stays as it is, unless a helper call
may write it. -/
theorem exec_lookup {i : Instr} {s t : State} {a : Nat} (h : exec i s = .next t)
    (hshared : inSharedRegion s.cfg a = false) (hstore : NotStorable s.cfg a)
    (hhelper : i.isHelperCall = false ∨ inSomeRegion s.cfg a = false) :
    Memory.lookup t.mem a = Memory.lookup s.mem a := by
  cases exec_shape h with
  | raised | wrote | jumped | exited => rfl
  | pushed | popped => simp
  | loaded => exact envWrites_lookup_of_not_shared s _ hshared
  | storedPlain _ _ _ _ _ _ _ _ _ hc =>
    rw [setPc_mem, storeThrough_lookup_outside _ _ _ _ _ (outside_of_checkAccess (by decide) hc hstore)]
    exact envWrites_lookup_of_not_shared s _ hshared
  | stored _ _ _ _ _ _ _ _ hc =>
    exact store_lookup_outside s _ _ _ (outside_of_checkAccess (by decide) hc hstore)
  | storedWrote _ _ _ _ _ _ _ _ _ _ hc =>
    exact store_lookup_outside s _ _ _ (outside_of_checkAccess (by decide) hc hstore)
  | helped ans _ hi =>
    exact applyHelper_lookup s ans (hhelper.resolve_left (by simp [hi]))

/-- `step_eq_next`, with the instruction known to be the one fetched. -/
theorem step_eq_next_fetched {s t : State} (h : step s = .next t) :
    (∃ f, t = raise f s.betweenSteps) ∨ ∃ i, fetch s = .ok i ∧ exec i s.betweenSteps = .next t := by
  cases hs : s.status with
  | exited v => simp [step_of_exited hs] at h
  | faulted f => simp [step_of_faulted hs] at h
  | running =>
    cases hf : fetch s with
    | error f => exact .inl ⟨f, by simpa [step_of_fetch_error hs hf, eq_comm] using h⟩
    | ok i => exact .inr ⟨i, rfl, by rwa [step_of_fetch_ok hs hf] at h⟩

/-- `exec_lookup` for a whole step, the environment's moves before the instruction included. -/
theorem step_lookup {s t : State} {a : Nat} (h : step s = .next t) (hshared : inSharedRegion s.cfg a = false)
    (hstore : NotStorable s.cfg a)
    (hhelper : (∀ i, fetch s = .ok i → i.isHelperCall = false) ∨ inSomeRegion s.cfg a = false) :
    Memory.lookup t.mem a = Memory.lookup s.mem a := by
  rw [← betweenSteps_lookup s hshared]
  obtain ⟨f, rfl⟩ | ⟨i, hf, hi⟩ := step_eq_next_fetched h
  · rfl
  · refine exec_lookup hi ?_ ?_ ?_ <;> rw [betweenSteps_cfg]
    · exact hshared
    · exact hstore
    · exact hhelper.imp_left fun hcall => hcall i hf

/-! ## What happens between steps: bytes as they read -/

/-- A byte the environment may not write reads the same after the environment's moves, unless it is a byte of the
stack that nothing has written (rules R62, R72, R74). -/
theorem betweenSteps_byteAt_of_private {s : State} {a : Nat} (hshared : inSharedRegion s.cfg a = false)
    (h : s.cfg.stackRegion.containsRange a 1 = false ∨ Memory.lookup s.mem a ≠ none) :
    s.betweenSteps.byteAt a = s.byteAt a := by
  rcases h with hstack | hlisted
  · exact betweenSteps_byteAt s (by simp [isDrawn, hstack, hshared])
  · obtain ⟨b, hb⟩ := Option.ne_none_iff_exists'.1 hlisted
    simp [State.byteAt, betweenSteps_lookup s hshared, hb]

/-! ## Admission -/

section
variable {s : State} {kind : AccessKind} {addr : Word} {n : Nat}

theorem checkAccess_misaligned (hm : mustAlign s.cfg kind = true) (h : addr.toNat % n ≠ 0) :
    checkAccess s kind addr n = .error (.memoryFault s.pc addr n kind .misaligned) := by
  simp [checkAccess, hm, h]

/-- An access whose alignment is no obstacle goes on to the other checks. -/
theorem not_misaligned_of_aligned (h : mustAlign s.cfg kind = true → addr.toNat % n = 0) :
    (mustAlign s.cfg kind && addr.toNat % n != 0) = false := by
  cases hm : mustAlign s.cfg kind with
  | false => rfl
  | true => simp [h hm]

theorem checkAccess_wrap (hal : mustAlign s.cfg kind = true → addr.toNat % n = 0) (h : 2 ^ 64 < addr.toNat + n) :
    checkAccess s kind addr n = .error (.memoryFault s.pc addr n kind .wrap) := by
  rw [checkAccess, if_neg (by simp [not_misaligned_of_aligned hal]), if_pos h]

theorem checkAccess_unmapped (hal : mustAlign s.cfg kind = true → addr.toNat % n = 0)
    (hwrap : addr.toNat + n ≤ 2 ^ 64) (h : regionOf s.cfg addr.toNat n = none) :
    checkAccess s kind addr n = .error (.memoryFault s.pc addr n kind .unmapped) := by
  rw [checkAccess, if_neg (by simp [not_misaligned_of_aligned hal]), if_neg (by omega), h]

theorem checkAccess_mapped {g : Region} (hal : mustAlign s.cfg kind = true → addr.toNat % n = 0)
    (hwrap : addr.toNat + n ≤ 2 ^ 64) (h : regionOf s.cfg addr.toNat n = some g) :
    checkAccess s kind addr n =
      if g.permits kind then .ok () else .error (.memoryFault s.pc addr n kind .permission) := by
  rw [checkAccess, if_neg (by simp [not_misaligned_of_aligned hal]), if_neg (by omega), h]

end

@[simp] theorem mustAlign_atomic (c : Config) : mustAlign c .atomic = true := rfl

theorem mustAlign_of_strict {c : Config} (kind : AccessKind) (h : c.alignPolicy = .strict) :
    mustAlign c kind = true := by
  simp [mustAlign, h]

theorem mustAlign_of_reference {c : Config} {kind : AccessKind} (h : c.alignPolicy = .reference)
    (hk : kind ≠ .atomic) : mustAlign c kind = false := by
  simp [mustAlign, h, hk]

/-- No region is found exactly when none contains the range. -/
theorem regionOf_eq_none_iff {c : Config} {lo n : Nat} : regionOf c lo n = none ↔ ¬ Mapped c lo n := by
  simp [regionOf, Mapped]

theorem mem_of_regionOf {c : Config} {lo n : Nat} {g : Region} (h : regionOf c lo n = some g) :
    g ∈ c.allRegions ∧ g.containsRange lo n = true :=
  ⟨List.mem_of_find?_eq_some h, List.find?_some (p := fun g : Region => g.containsRange lo n) h⟩

theorem disjoint_comm (g h : Region) : g.disjoint h = h.disjoint g := Bool.or_comm _ _

/-- Disjoint regions contain no range of one byte or more between them. -/
theorem not_containsRange_of_disjoint {g h : Region} {lo n : Nat} (hn : 0 < n) (hd : g.disjoint h = true)
    (hg : g.containsRange lo n = true) : h.containsRange lo n = false := by
  rw [containsRange_iff] at hg
  simp only [Region.disjoint, Bool.or_eq_true, decide_eq_true_eq] at hd
  rw [← Bool.not_eq_true, containsRange_iff]
  omega

/-- With pairwise disjoint regions, at most one contains a range of one byte or more (rule R66). -/
theorem eq_of_containsRange {c : Config} {g h : Region} {lo n : Nat} (hwf : c.regionsWf = true) (hn : 0 < n)
    (hg : g ∈ c.allRegions) (hglo : g.containsRange lo n = true) (hh : h ∈ c.allRegions)
    (hhlo : h.containsRange lo n = true) : g = h := by
  have hsymm : Std.Symm fun g h : Region => g.disjoint h = true := ⟨fun g h hd => by rwa [disjoint_comm]⟩
  have hpair : c.allRegions.Pairwise fun g h => g.disjoint h = true := by
    simp only [Config.regionsWf, Bool.and_eq_true, decide_eq_true_eq] at hwf
    exact hwf.2
  by_contra hne
  rw [not_containsRange_of_disjoint hn (hpair.forall hg hh hne) hglo] at hhlo
  cases hhlo

/-- With pairwise disjoint regions, the right of the region that is found decides. -/
theorem admitted_iff_of_regionOf {c : Config} {kind : AccessKind} {lo n : Nat} {g : Region} (hwf : c.regionsWf = true)
    (hn : 0 < n) (h : regionOf c lo n = some g) : Admitted c kind lo n ↔ g.permits kind = true := by
  obtain ⟨hg, hglo⟩ := mem_of_regionOf h
  refine ⟨?_, fun hp => ⟨g, hg, hglo, hp⟩⟩
  rintro ⟨g', hg', hglo', hp⟩
  rwa [eq_of_containsRange hwf hn hg hglo hg' hglo']

theorem mapped_of_admitted {c : Config} {kind : AccessKind} {lo n : Nat} (h : Admitted c kind lo n) :
    Mapped c lo n := by
  obtain ⟨g, hg, hglo, -⟩ := h
  exact ⟨g, hg, hglo⟩

/-! ## Bytes of a value -/

theorem getLsbD_lowBytes (n : Nat) (v : Word) (k : Nat) :
    (lowBytes n v).getLsbD k = (decide (k < 8 * n) && v.getLsbD k) := by
  rw [lowBytes, BitVec.getLsbD_ofNat, Nat.testBit_mod_two_pow, BitVec.testBit_toNat]
  by_cases hk : k < 64
  · simp [hk]
  · simp [hk, BitVec.getLsbD_of_ge v k (by omega)]

@[simp] theorem lowBytes_zero (v : Word) : lowBytes 0 v = 0 := by simp [lowBytes, Nat.mod_one]

/-- Joining the low bytes of a value gives them, zero-extended. -/
theorem joinLow_splitLow (v : Word) (n : Nat) : joinLow (splitLow v n) = lowBytes n v := by
  induction n generalizing v with
  | zero => rw [lowBytes_zero]; rfl
  | succ n ih =>
    refine BitVec.eq_of_getLsbD_eq fun k hk => ?_
    rw [splitLow, joinLow, ih]
    simp only [BitVec.getLsbD_or, BitVec.getLsbD_shiftLeft, getLsbD_lowBytes, BitVec.getLsbD_ushiftRight,
      BitVec.truncate_eq_setWidth, BitVec.getLsbD_setWidth, hk, decide_true, Bool.true_and]
    by_cases h8 : k < 8
    · simp [h8, show k < 8 * (n + 1) by omega]
    · simp [h8, show 8 + (k - 8) = k by omega, show k - 8 < 8 * n ↔ k < 8 * (n + 1) by omega]

/-- Putting together what was laid out gives the low bytes, in either byte order (rule R60). -/
theorem assemble_layout (bo : ByteOrder) (n : Nat) (v : Word) : assemble bo (layout bo n v) = lowBytes n v := by
  cases bo with
  | le => exact joinLow_splitLow v n
  | be => rw [assemble, layout, List.reverse_reverse, joinLow_splitLow]

theorem byteIndex_lt {bo : ByteOrder} {n k : Nat} (h : k < n) : byteIndex bo n k < n := by
  cases bo with
  | le => exact h
  | be => show n - 1 - k < n; omega

/-- How many of the bytes of an `n`-byte value are less significant than the `m` bytes at places `j` to `j + m - 1`
(rule R60). -/
def bytesBelow (bo : ByteOrder) (n j m : Nat) : Nat :=
  match bo with
  | .le => j
  | .be => n - j - m

theorem layout_le_getElem (n : Nat) (v : Word) {i : Nat} (h : i < (layout .le n v).length) :
    (layout .le n v)[i] = v.extractLsb' (8 * i) 8 := splitLow_getElem v n h

theorem layout_be_getElem (n : Nat) (v : Word) {i : Nat} (h : i < (layout .be n v).length) :
    (layout .be n v)[i] = v.extractLsb' (8 * (n - 1 - i)) 8 := by
  simp only [layout, List.getElem_reverse, splitLow_getElem, splitLow_length]

/-- The byte that rule R60 puts at the place of byte `k`. -/
theorem layout_getElem_byteIndex {bo : ByteOrder} {n k : Nat} (v : Word) (hk : k < n)
    (h : byteIndex bo n k < (layout bo n v).length) : (layout bo n v)[byteIndex bo n k] = v.extractLsb' (8 * k) 8 := by
  cases bo with
  | le => exact layout_le_getElem n v h
  | be =>
    have hplace : n - 1 - (n - 1 - k) = k := by omega
    simp only [byteIndex, layout_be_getElem, hplace]

theorem extractLsb'_ushiftRight (v : Word) (j k : Nat) :
    (v >>> (8 * j)).extractLsb' (8 * k) 8 = v.extractLsb' (8 * (j + k)) 8 := by
  refine BitVec.eq_of_getLsbD_eq fun b hb => ?_
  simp [BitVec.getLsbD_extractLsb', Nat.mul_add, Nat.add_assoc]

/-- The `m` bytes from place `j` on of a value that was laid out are themselves the layout of a part of it. -/
theorem layout_getElem_add {bo : ByteOrder} {n m j i : Nat} (v : Word) (hjm : j + m ≤ n) (hi : i < m)
    (h : j + i < (layout bo n v).length) (h' : i < (layout bo m (v >>> (8 * bytesBelow bo n j m))).length) :
    (layout bo n v)[j + i] = (layout bo m (v >>> (8 * bytesBelow bo n j m)))[i] := by
  cases bo with
  | le => rw [layout_le_getElem, layout_le_getElem, extractLsb'_ushiftRight, bytesBelow]
  | be =>
    rw [layout_be_getElem, layout_be_getElem, extractLsb'_ushiftRight, bytesBelow,
      show n - j - m + (m - 1 - i) = n - 1 - (j + i) by omega]

/-! ## Loading what was stored -/

theorem bytesAt_store (s : State) (a v : Word) {n m j : Nat} (hjm : j + m ≤ n) :
    (s.store a n v).bytesAt (a.toNat + j) m =
      layout s.cfg.byteOrder m (v >>> (8 * bytesBelow s.cfg.byteOrder n j m)) := by
  refine List.ext_getElem (by simp) fun i hi _ => ?_
  rw [bytesAt_length] at hi
  rw [bytesAt_getElem, Nat.add_assoc, store_byteAt_inside s a n v (show j + i < n by omega)]
  exact layout_getElem_add v hjm hi _ _

@[simp] theorem load_zero (s : State) (a : Word) : s.load a 0 = 0 := by
  unfold State.load
  cases s.cfg.byteOrder <;> rfl

/-- A load of `m` bytes within the range of a store returns the bytes of the value that lie there (rules R60, R81). -/
theorem load_store (s : State) (a v : Word) {n m j : Nat} (hjm : j + m ≤ n) (hwrap : a.toNat + n ≤ 2 ^ 64) :
    (s.store a n v).load (a + BitVec.ofNat 64 j) m = lowBytes m (v >>> (8 * bytesBelow s.cfg.byteOrder n j m)) := by
  rcases Nat.eq_zero_or_pos m with rfl | hm
  · rw [load_zero, lowBytes_zero]
  · have haddr : (a + BitVec.ofNat 64 j).toNat = a.toNat + j := by
      rw [BitVec.toNat_add, BitVec.toNat_ofNat]
      omega
    rw [State.load, haddr, store_cfg, bytesAt_store s a v hjm, assemble_layout]

theorem lowBytes_ushiftRight (m k : Nat) (v : Word) :
    lowBytes m (v >>> (8 * k)) = BitVec.ofNat 64 (v.toNat / 2 ^ (8 * k) % 2 ^ (8 * m)) := by
  rw [lowBytes, BitVec.toNat_ushiftRight, Nat.shiftRight_eq_div_pow]

/-! ## The obligations -/

/-- Settles O11: a byte in no region is none that the environment may write, a store is admitted to, or a helper may
write. -/
theorem memoryOutsideRegionsNeverChanges : Obligations.MemoryOutsideRegionsNeverChanges :=
  fun _ _ _ h ha =>
    step_lookup h (not_inSharedRegion_of_not_inSomeRegion ha) (notStorable_of_not_inSomeRegion ha) (.inr ha)

/-- Settles O12: such a byte is none that the environment may write or a store is admitted to. -/
theorem readOnlyPrivateMemoryNeverChanges : Obligations.ReadOnlyPrivateMemoryNeverChanges := by
  intro s t a h hcall hro
  rw [fetch_betweenSteps] at hcall
  exact step_lookup h (not_inSharedRegion_of_all_private fun g hg ha => (hro g hg ha).2)
    (fun _ g hg ha => (hro g hg ha).1) (.inl hcall)

/-- Settles O10: the environment's moves, a fault and every instruction keep text and parameters. -/
theorem stepNeverChangesProgramOrParameters : Obligations.StepNeverChangesProgramOrParameters := by
  intro s t h
  refine step_keeps (P := fun u => u.text = s.text ∧ u.cfg = s.cfg) (fun u hu => by simpa using hu)
    (fun _ _ hu => hu) (fun i u u' hu hi => ?_) ⟨rfl, rfl⟩ h
  have same := exec_sameHidden hi
  exact ⟨same.text.trans hu.1, same.cfg.trans hu.2⟩

/-- Settles O13: such a byte is none that the environment may write, before the instruction or while it runs. -/
theorem environmentTouchesOnlySharedMemory : Obligations.EnvironmentTouchesOnlySharedMemory := by
  intro s
  refine ⟨betweenSteps_regs s, betweenSteps_pc s, betweenSteps_callStack s, betweenSteps_status s,
    betweenSteps_text s, betweenSteps_cfg s, fun a hprivate => ?_⟩
  have hshared : inSharedRegion s.cfg a = false := by
    rcases hprivate with ⟨g, hg, ha, hs⟩ | hnone
    · exact not_inSharedRegion_of_private hg ha hs
    · exact not_inSharedRegion_of_all_private fun g hg ha => by simp [hnone g hg] at ha
  refine ⟨betweenSteps_lookup s hshared, fun hread => ?_⟩
  have hbyte := betweenSteps_byteAt_of_private hshared hread
  refine ⟨hbyte, fun w i t ⟨hrun, hw⟩ hd hcall hout hstep => ?_⟩
  rw [step_of_fetch_ok hrun (fetch_of_decode hw hd)] at hstep
  obtain ⟨hquiet, -⟩ := exec_readsAsBefore hstep hcall hout
  exact (hquiet (.inr (by rwa [betweenSteps_cfg]))).trans hbyte

/-- Settles O51: the bytes lie as `layout` says, and a part of a layout is a layout. -/
theorem mixedWidthAccesses : Obligations.MixedWidthAccesses := by
  refine ⟨fun s a v n k _ hk _ => ?_, fun s a v n m j _ hjm hwrap => ?_, fun s a hwrap => ?_⟩
  · rw [store_byteAt_inside s a n v (byteIndex_lt hk), layout_getElem_byteIndex v hk]
  · have hload := load_store s a v hjm hwrap
    rw [lowBytes_ushiftRight] at hload
    refine ⟨fun hbo => ?_, fun hbo => ?_⟩ <;> rw [hload, hbo, bytesBelow]
  · have hfirst := load_store s a 0x11223344 (n := 4) (m := 1) (j := 0) (by decide) hwrap
    have hlast := load_store s a 0x11223344 (n := 4) (m := 2) (j := 2) (by decide) hwrap
    rw [BitVec.ofNat_eq_ofNat, BitVec.add_zero] at hfirst
    refine ⟨fun hbo => ?_, fun hbo => ?_⟩ <;> rw [hbo] at hfirst hlast <;> exact ⟨hfirst, hlast⟩

/-- Settles O52: by the region that is found; being the only one that contains the range, its right decides. -/
theorem admissionByRegions : Obligations.AdmissionByRegions := by
  intro s kind addr n hwf hn hwrap hal
  cases hg : regionOf s.cfg addr.toNat n with
  | none =>
    have hunmapped := regionOf_eq_none_iff.1 hg
    have hnot := mt (mapped_of_admitted (kind := kind)) hunmapped
    simp [checkAccess_unmapped hal hwrap hg, hunmapped, hnot]
  | some g =>
    have hmapped : Mapped s.cfg addr.toNat n := ⟨g, mem_of_regionOf hg⟩
    rw [checkAccess_mapped hal hwrap hg, admitted_iff_of_regionOf hwf hn hg]
    cases hp : g.permits kind <;> simp [hmapped]

/-- Settles O53, check by check. -/
theorem alignmentAndWrapChecks : Obligations.AlignmentAndWrapChecks := by
  refine fun s addr n => ⟨checkAccess_misaligned (mustAlign_atomic s.cfg),
    fun kind hmis hstrict => checkAccess_misaligned (mustAlign_of_strict kind hstrict) hmis,
    fun kind hpass hpast => checkAccess_wrap (fun hm => ?_) hpast,
    fun kind href hk => mustAlign_of_reference href hk⟩
  rcases hpass with hal | ⟨href, hk⟩
  · exact hal
  · simp [mustAlign_of_reference href hk] at hm

end Sys2Proof.Machine

/-! Proofs about the encoding: decoding and encoding undo each other, in words and in bytes, and the words that the
decoder refuses end the step. `Accepts` says once, for each format, which words the decoder accepts. -/

namespace Sys2Proof

/-! ## What the decoder accepts -/

/-- A word is its legacy operand and its opcode (rule R109). -/
theorem legacyWord_of_fields (w : Word) : w.extractLsb' 8 56 ++ (Fields.ofWord w).opcode = w :=
  (BitVec.extractLsb'_append_extractLsb'_eq_extractLsb' (rfl : 8 = 0 + 8)).trans BitVec.extractLsb'_eq_self

theorem decodeForm_legacy {lcf : LocalCallField} {w : Word} {w2 : Option Word} {i : Instr} {mk : BitVec 56 → Instr}
    (h : decodeForm lcf w w2 (.legacy mk) = .ok i) : ∃ rest, i = mk rest ∧ w = rest ++ (Fields.ofWord w).opcode :=
  ⟨_, (Except.ok.inj h).symm, (legacyWord_of_fields w).symm⟩

/-- The words that steps 3 to 5 of the decode procedure accept for a row, and the instruction they give (rules R97,
R109, R116, R119, R120, R124). -/
inductive Accepts (lcf : LocalCallField) : Form → Word → Option Word → Instr → Prop where
  | aluK {mk op d imm w2} (hd : writable d = true) :
      Accepts lcf (.aluK mk) (slotWord op (regField d) 0 0 imm) w2 (mk d imm)
  | aluX {mk op d r w2} (hd : writable d = true) :
      Accepts lcf (.aluX mk) (slotWord op (regField d) (regField r) 0 0) w2 (mk d r)
  | aluUn {mk op d w2} (hd : writable d = true) :
      Accepts lcf (.aluUn mk) (slotWord op (regField d) 0 0 0) w2 (mk d)
  | swap {mk op d imm w2} (hd : writable d = true) :
      Accepts lcf (.swap mk) (slotWord op (regField d) 0 0 imm) w2 (mk d)
  | ja {mk op off w2} : Accepts lcf (.ja mk) (slotWord op 0 0 off 0) w2 (mk off)
  | jccK {mk op d off imm w2} : Accepts lcf (.jccK mk) (slotWord op (regField d) 0 off imm) w2 (mk d imm off)
  | jccX {mk op d r off w2} : Accepts lcf (.jccX mk) (slotWord op (regField d) (regField r) off 0) w2 (mk d r off)
  | callHelper {mk op r imm w2} : Accepts lcf (.callHelper mk) (slotWord op 0 r 0 imm) w2 (mk imm)
  | callLocal {mk op r off imm w2} (hz : localCallUnusedZero lcf off imm = true) :
      Accepts lcf (.callLocal mk) (slotWord op 0 r off imm) w2 (mk off imm)
  | exit {mk op w2} : Accepts lcf (.exit mk) (slotWord op 0 0 0 0) w2 mk
  | ldx {mk op d r off w2} (hd : writable d = true) :
      Accepts lcf (.ldx mk) (slotWord op (regField d) (regField r) off 0) w2 (mk d r off)
  | st {mk op d off imm w2} : Accepts lcf (.st mk) (slotWord op (regField d) 0 off imm) w2 (mk d off imm)
  | stx {mk op d r off w2} : Accepts lcf (.stx mk) (slotWord op (regField d) (regField r) off 0) w2 (mk d r off)
  | atomic {mk op d r off imm w2} :
      Accepts lcf (.atomic mk) (slotWord op (regField d) (regField r) off imm) w2 (mk d r off)
  | atomicFetch {mk op d r off imm w2} (hr : writable r = true) :
      Accepts lcf (.atomicFetch mk) (slotWord op (regField d) (regField r) off imm) w2 (mk d r off)
  | lddw2 {mk op d r imm next} (hd : writable d = true) :
      Accepts lcf (.lddw2 mk) (slotWord op (regField d) r 0 imm) (some (secondSlot next)) (mk d imm next)
  | lddw1 {mk op d r imm} (hd : writable d = true) :
      Accepts lcf (.lddw1 mk) (slotWord op (regField d) r 0 imm) (some (secondSlot 0)) (mk d imm)
  | legacy {mk w2} {rest : BitVec 56} {op : BitVec 8} : Accepts lcf (.legacy mk) (rest ++ op) w2 (mk rest)

section
variable {lcf : LocalCallField} {form : Form} {w : Word} {w2 : Option Word} {i : Instr}

theorem accepts_of_decodeForm (h : decodeForm lcf w w2 form = .ok i) : Accepts lcf form w w2 i := by
  cases form with
  | aluK => obtain ⟨_, _, rfl, hd, hw⟩ := decodeForm_aluK h; rw [hw]; exact .aluK hd
  | aluX => obtain ⟨_, _, rfl, hd, hw⟩ := decodeForm_aluX h; rw [hw]; exact .aluX hd
  | aluUn => obtain ⟨_, rfl, hd, hw⟩ := decodeForm_aluUn h; rw [hw]; exact .aluUn hd
  | swap => obtain ⟨_, _, rfl, hd, hw⟩ := decodeForm_swap h; rw [hw]; exact .swap hd
  | ja => obtain ⟨_, rfl, hw⟩ := decodeForm_ja h; rw [hw]; exact .ja
  | jccK => obtain ⟨_, _, _, rfl, hw⟩ := decodeForm_jccK h; rw [hw]; exact .jccK
  | jccX => obtain ⟨_, _, _, rfl, hw⟩ := decodeForm_jccX h; rw [hw]; exact .jccX
  | callHelper => obtain ⟨_, _, rfl, hw⟩ := decodeForm_callHelper h; rw [hw]; exact .callHelper
  | callLocal => obtain ⟨_, _, _, rfl, hz, hw⟩ := decodeForm_callLocal h; rw [hw]; exact .callLocal hz
  | exit => obtain ⟨rfl, hw⟩ := decodeForm_exit h; rw [hw]; exact .exit
  | ldx => obtain ⟨_, _, _, rfl, hd, hw⟩ := decodeForm_ldx h; rw [hw]; exact .ldx hd
  | st => obtain ⟨_, _, _, rfl, hw⟩ := decodeForm_st h; rw [hw]; exact .st
  | stx => obtain ⟨_, _, _, rfl, hw⟩ := decodeForm_stx h; rw [hw]; exact .stx
  | atomic => obtain ⟨_, _, _, rfl, hw⟩ := decodeForm_atomic h; rw [hw]; exact .atomic
  | atomicFetch => obtain ⟨_, _, _, rfl, hr, hw⟩ := decodeForm_atomicFetch h; rw [hw]; exact .atomicFetch hr
  | lddw2 => obtain ⟨_, _, _, _, rfl, hd, hw, -, rfl⟩ := decodeForm_lddw2 h; rw [hw]; exact .lddw2 hd
  | lddw1 => obtain ⟨_, _, _, rfl, hd, hw, -, rfl⟩ := decodeForm_lddw1 h; rw [hw]; exact .lddw1 hd
  | legacy => obtain ⟨_, rfl, hw⟩ := decodeForm_legacy h; rw [hw]; exact .legacy

theorem decodeForm_of_accepts (h : Accepts lcf form w w2 i) : decodeForm lcf w w2 form = .ok i := by
  cases h with
  | aluK hd | aluX hd | aluUn hd | swap hd | ldx hd | atomicFetch hd | lddw2 hd | lddw1 hd =>
    simp [decodeForm, require, writableNumber_regField hd]
  | callLocal hz => simp [decodeForm, require, hz]
  | legacy => rw [decodeForm, (legacyWord_fields _ _).2]
  | ja | jccK | jccX | callHelper | exit | st | stx | atomic => simp [decodeForm, require]

theorem decodeForm_eq_ok_iff : decodeForm lcf w w2 form = .ok i ↔ Accepts lcf form w w2 i :=
  ⟨accepts_of_decodeForm, decodeForm_of_accepts⟩

/-- Decoding is selecting the row by the fields, and checking the words against it (rule R116). -/
theorem decode_eq_ok_iff :
    decode lcf w w2 = .ok i ↔ ∃ form, formOf (Fields.ofWord w) = .ok form ∧ Accepts lcf form w w2 i := by
  simp only [decode, bind_eq_ok, decodeForm_eq_ok_iff]

end

/-! ## Encoding what was decoded -/

/-- A row's constructor gives instructions whose first word has the row's opcode, and its selector where the opcode is
shared (rules R110, R121). -/
def MakesEncoding (f : Fields) : Form → Prop
  | .aluK mk => ∀ d imm, encode (mk d imm) = [slotWord f.opcode (regField d) 0 0 imm]
  | .aluX mk => ∀ d r, encode (mk d r) = [slotWord f.opcode (regField d) (regField r) 0 0]
  | .aluUn mk => ∀ d, encode (mk d) = [slotWord f.opcode (regField d) 0 0 0]
  | .swap mk => ∀ d, encode (mk d) = [slotWord f.opcode (regField d) 0 0 f.imm]
  | .ja mk => ∀ off, encode (mk off) = [slotWord f.opcode 0 0 off 0]
  | .jccK mk => ∀ d imm off, encode (mk d imm off) = [slotWord f.opcode (regField d) 0 off imm]
  | .jccX mk => ∀ d r off, encode (mk d r off) = [slotWord f.opcode (regField d) (regField r) off 0]
  | .callHelper mk => ∀ imm, encode (mk imm) = [slotWord f.opcode 0 f.src 0 imm]
  | .callLocal mk => ∀ off imm, encode (mk off imm) = [slotWord f.opcode 0 f.src off imm]
  | .exit mk => encode mk = [slotWord f.opcode 0 0 0 0]
  | .ldx mk => ∀ d r off, encode (mk d r off) = [slotWord f.opcode (regField d) (regField r) off 0]
  | .st mk => ∀ d off imm, encode (mk d off imm) = [slotWord f.opcode (regField d) 0 off imm]
  | .stx mk => ∀ d r off, encode (mk d r off) = [slotWord f.opcode (regField d) (regField r) off 0]
  | .atomic mk => ∀ d r off, encode (mk d r off) = [slotWord f.opcode (regField d) (regField r) off f.imm]
  | .atomicFetch mk => ∀ d r off, encode (mk d r off) = [slotWord f.opcode (regField d) (regField r) off f.imm]
  | .lddw2 mk => ∀ d imm next,
      encode (mk d imm next) = [slotWord f.opcode (regField d) f.src 0 imm, secondSlot next]
  | .lddw1 mk => ∀ d imm, encode (mk d imm) = [slotWord f.opcode (regField d) f.src 0 imm, secondSlot 0]
  | .legacy mk => ∀ rest, encode (mk rest) = [rest ++ f.opcode]

/-- Every row of the opcode map does, the rows of a shared opcode too (rules R110, R121). -/
theorem makesEncoding_of_formOf {f : Fields} {form : Form} (h : formOf f = .ok form) : MakesEncoding f form := by
  -- with the numbers of opcode and selectors in view, each branch fixes the fields by its literals
  obtain ⟨⟨⟨op, _⟩⟩, d, ⟨⟨r, _⟩⟩, off, ⟨⟨imm, _⟩⟩⟩ := f
  rw [formOf] at h
  dsimp only [BitVec.toNat_ofFin] at h
  unfold callForm immForm leForm beForm atomic32Form atomic64Form at h
  split at h
  all_goals try split at h
  all_goals cases h <;> simp only [MakesEncoding] <;> intros <;> rfl

/-- The words a row accepts are the encoding of the instruction it gives. -/
theorem encode_of_accepts {lcf : LocalCallField} {form : Form} {w : Word} {w2 : Option Word} {i : Instr}
    (hf : MakesEncoding (Fields.ofWord w) form) (h : Accepts lcf form w w2 i) :
    encode i = [w] ∨ ∃ v, w2 = some v ∧ encode i = [w, v] := by
  cases h with
  | lddw2 | lddw1 =>
    simp only [MakesEncoding, ofWord_slotWord] at hf
    exact .inr ⟨_, rfl, hf ..⟩
  | legacy =>
    simp only [MakesEncoding, (legacyWord_fields _ _).1] at hf
    exact .inl (hf _)
  | _ =>
    simp only [MakesEncoding, ofWord_slotWord] at hf
    exact .inl (hf ..)

/-! ## Decoding what was encoded -/

/-- The decoder gives `i` from the words of its encoding; from one word, whatever the slot after it is. -/
inductive DecodesBack (lcf : LocalCallField) (i : Instr) : Prop where
  | one {w : Word} (henc : encode i = [w]) (hdec : ∀ w2, decode lcf w w2 = .ok i)
  | two {w v : Word} (henc : encode i = [w, v]) (hdec : decode lcf w (some v) = .ok i)

section
variable {lcf : LocalCallField} {form : Form} {i : Instr} {op : BitVec 8} {d r : BitVec 4} {off : BitVec 16}
  {imm : BitVec 32}

theorem decodesBack_one (henc : encode i = [slotWord op d r off imm])
    (hform : formOf ⟨op, d, r, off, imm⟩ = .ok form)
    (hacc : ∀ w2, Accepts lcf form (slotWord op d r off imm) w2 i) : DecodesBack lcf i :=
  .one henc fun w2 => decode_eq_ok_iff.2 ⟨form, by rw [ofWord_slotWord, hform], hacc w2⟩

theorem decodesBack_two {v : Word} (henc : encode i = [slotWord op d r off imm, v])
    (hform : formOf ⟨op, d, r, off, imm⟩ = .ok form)
    (hacc : Accepts lcf form (slotWord op d r off imm) (some v) i) : DecodesBack lcf i :=
  .two henc (decode_eq_ok_iff.2 ⟨form, by rw [ofWord_slotWord, hform], hacc⟩)

theorem decodesBack_legacy {mk : BitVec 56 → Instr} {rest : BitVec 56} (henc : encode (mk rest) = [rest ++ op])
    (hform : ∀ f : Fields, f.opcode = op → formOf f = .ok (.legacy mk)) : DecodesBack lcf (mk rest) :=
  .one henc fun _ => decode_eq_ok_iff.2 ⟨.legacy mk, hform _ (legacyWord_fields rest op).1, .legacy⟩

end

/-- Every well-formed instruction's encoding decodes back, by the format of its row (rule R109). -/
theorem decodesBack {lcf : LocalCallField} {i : Instr} (hwf : i.wf lcf = true) : DecodesBack lcf i := by
  cases i with
  | add32Imm | add64Imm | sub32Imm | sub64Imm | mul32Imm | mul64Imm | div32Imm | div64Imm | or32Imm | or64Imm
  | and32Imm | and64Imm | lsh32Imm | lsh64Imm | rsh32Imm | rsh64Imm | mod32Imm | mod64Imm | xor32Imm
  | xor64Imm | mov32Imm | mov64Imm | arsh32Imm | arsh64Imm => exact decodesBack_one rfl rfl fun _ => .aluK hwf
  | add32Reg | add64Reg | sub32Reg | sub64Reg | mul32Reg | mul64Reg | div32Reg | div64Reg | or32Reg | or64Reg
  | and32Reg | and64Reg | lsh32Reg | lsh64Reg | rsh32Reg | rsh64Reg | mod32Reg | mod64Reg | xor32Reg
  | xor64Reg | mov32Reg | mov64Reg | arsh32Reg | arsh64Reg => exact decodesBack_one rfl rfl fun _ => .aluX hwf
  | neg32 | neg64 => exact decodesBack_one rfl rfl fun _ => .aluUn hwf
  | le16 | le32 | le64 | be16 | be32 | be64 => exact decodesBack_one rfl rfl fun _ => .swap hwf
  | ja => exact decodesBack_one rfl rfl fun _ => .ja
  | jeq64Imm | jeq32Imm | jgt64Imm | jgt32Imm | jge64Imm | jge32Imm | jset64Imm | jset32Imm | jne64Imm
  | jne32Imm | jsgt64Imm | jsgt32Imm | jsge64Imm | jsge32Imm | jlt64Imm | jlt32Imm | jle64Imm | jle32Imm
  | jslt64Imm | jslt32Imm | jsle64Imm | jsle32Imm => exact decodesBack_one rfl rfl fun _ => .jccK
  | jeq64Reg | jeq32Reg | jgt64Reg | jgt32Reg | jge64Reg | jge32Reg | jset64Reg | jset32Reg | jne64Reg
  | jne32Reg | jsgt64Reg | jsgt32Reg | jsge64Reg | jsge32Reg | jlt64Reg | jlt32Reg | jle64Reg | jle32Reg
  | jslt64Reg | jslt32Reg | jsle64Reg | jsle32Reg => exact decodesBack_one rfl rfl fun _ => .jccX
  | callHelper | callPlatform => exact decodesBack_one rfl rfl fun _ => .callHelper
  | callLocal => exact decodesBack_one rfl rfl fun _ => .callLocal hwf
  | exit => exact decodesBack_one rfl rfl fun _ => .exit
  | ldxw | ldxh | ldxb | ldxdw => exact decodesBack_one rfl rfl fun _ => .ldx hwf
  | stw | sth | stb | stdw => exact decodesBack_one rfl rfl fun _ => .st
  | stxw | stxh | stxb | stxdw => exact decodesBack_one rfl rfl fun _ => .stx
  | atomicAdd32 | atomicOr32 | atomicAnd32 | atomicXor32 | atomicCmpxchg32 | atomicAdd64 | atomicOr64
  | atomicAnd64 | atomicXor64 | atomicCmpxchg64 => exact decodesBack_one rfl rfl fun _ => .atomic
  | atomicFetchAdd32 | atomicFetchOr32 | atomicFetchAnd32 | atomicFetchXor32 | atomicXchg32 | atomicFetchAdd64
  | atomicFetchOr64 | atomicFetchAnd64 | atomicFetchXor64 | atomicXchg64 =>
    exact decodesBack_one rfl rfl fun _ => .atomicFetch hwf
  | lddw | ldMapFdValue | ldMapIdxValue => exact decodesBack_two rfl rfl (.lddw2 hwf)
  | ldMapFd | ldVarAddr | ldCodeAddr | ldMapIdx => exact decodesBack_two rfl rfl (.lddw1 hwf)
  | ldabsw | ldabsh | ldabsb | ldabsdw | ldindw | ldindh | ldindb | ldinddw =>
    exact decodesBack_legacy rfl fun _ h => by rw [formOf, h]; rfl

/-! ## Bytes and images -/

/-- Decoding the bytes of an encoding reads its one slot, or its two, and leaves the bytes after them (rules R92,
R93). -/
theorem decodeBytes_encodeBytes {lcf : LocalCallField} {i : Instr} (bo : ByteOrder) (rest : List Byte)
    (h : DecodesBack lcf i) : decodeBytes bo lcf (encodeBytes bo i ++ rest) = .ok (i, rest) := by
  cases h with
  | one henc hdec =>
    cases hnext : takeSlot bo rest <;> simp [encodeBytes, henc, decodeBytes, takeSlot_slotBytes, hnext, hdec]
  | two henc hdec => simp [encodeBytes, henc, decodeBytes, takeSlot_slotBytes, hdec]

/-- An image that begins with a slot is that slot's word and the words of the bytes after it (rule R61). -/
theorem imageWords_of_takeSlot {bo : ByteOrder} {bytes rest : List Byte} {w : Word}
    (h : takeSlot bo bytes = some (w, rest)) : imageWords bo bytes = (imageWords bo rest).map (w :: ·) := by
  unfold takeSlot at h
  split at h
  · cases h; rfl
  · cases h

/-- Slots laid out in a byte order read back as their words, slot by slot (rules R92, R93). -/
theorem imageWords_flatMap_slotBytes (bo : ByteOrder) (ws : List Word) :
    imageWords bo (ws.flatMap (slotBytes bo)) = some ws := by
  induction ws with
  | nil => rfl
  | cons w ws ih => rw [List.flatMap_cons, imageWords_of_takeSlot (takeSlot_slotBytes bo w _), ih, Option.map_some]

/-! ## What the opcode map leaves undefined -/

/-- An opcode with a row is a defined one (rule R110). -/
theorem mem_definedOpcodes_of_formOf {f : Fields} {form : Form} (h : formOf f = .ok form) :
    f.opcode.toNat ∈ definedOpcodes := by
  rw [formOf] at h
  generalize f.opcode.toNat = op at h ⊢
  split at h
  all_goals try contradiction
  all_goals decide

section
variable {f : Fields}

theorem formOf_of_le (h : f.opcode = 0xd4) : formOf f = leForm f.imm.toNat := by rw [formOf, h]; rfl
theorem formOf_of_be (h : f.opcode = 0xdc) : formOf f = beForm f.imm.toNat := by rw [formOf, h]; rfl
theorem formOf_of_atomic32 (h : f.opcode = 0xc3) : formOf f = atomic32Form f.imm.toNat := by rw [formOf, h]; rfl
theorem formOf_of_atomic64 (h : f.opcode = 0xdb) : formOf f = atomic64Form f.imm.toNat := by rw [formOf, h]; rfl
theorem formOf_of_call (h : f.opcode = 0x85) : formOf f = callForm f.src.toNat := by rw [formOf, h]; rfl
theorem formOf_of_wide (h : f.opcode = 0x18) : formOf f = immForm f.src.toNat := by rw [formOf, h]; rfl

end

/-! ## Wide instructions -/

/-- A subtype's row is a wide form; the subtypes 1, 3, 4 and 5 do not use `next_imm` (rules R106, R121). -/
theorem immForm_eq_ok {n : Nat} {form : Form} (h : immForm n = .ok form) :
    (∃ mk, form = .lddw1 mk) ∨ (∃ mk, form = .lddw2 mk) ∧ n ∉ [1, 3, 4, 5] := by
  unfold immForm at h
  split at h <;> cases h <;> simp

/-- The low half of a second slot is clear, the high half is `next_imm` (rule R97). -/
theorem secondSlot_halves (next : BitVec 32) :
    (secondSlot next).extractLsb' 0 32 = 0 ∧ (secondSlot next).extractLsb' 32 32 = next := by
  have h := secondSlotImm_secondSlot next
  simpa only [secondSlotImm, bind_eq_ok, require_eq_ok, beq_iff_eq, Except.ok.injEq, exists_const] using h

/-- A word with opcode 0x18 is accepted only together with its second slot, clear where the subtype does not use
`next_imm` (rules R97, R119). -/
theorem secondSlot_of_decode {lcf : LocalCallField} {w : Word} {w2 : Option Word} {i : Instr}
    (hop : (Fields.ofWord w).opcode = 0x18) (h : decode lcf w w2 = .ok i) :
    ∃ next, w2 = some (secondSlot next) ∧ ((Fields.ofWord w).src.toNat ∈ [1, 3, 4, 5] → next = 0) := by
  obtain ⟨form, hform, hacc⟩ := decode_eq_ok_iff.1 h
  rw [formOf_of_wide hop] at hform
  obtain ⟨_, rfl⟩ | ⟨⟨_, rfl⟩, hsub⟩ := immForm_eq_ok hform
  · cases hacc; exact ⟨0, rfl, fun _ => rfl⟩
  · cases hacc; exact ⟨_, rfl, fun hin => absurd hin hsub⟩

/-! ## Legacy instructions -/

/-- The eight legacy instructions that carry the same 56 bits (rule R123). -/
def legacyInstrs (rest : BitVec 56) : List Instr :=
  [.ldabsw rest, .ldabsh rest, .ldabsb rest, .ldabsdw rest, .ldindw rest, .ldindh rest, .ldindb rest, .ldinddw rest]

/-- A legacy opcode selects a legacy row, whatever the other fields hold (rule R123). -/
theorem formOf_of_legacy {f : Fields} (h : f.opcode.toNat ∈ [0x20, 0x28, 0x30, 0x38, 0x40, 0x48, 0x50, 0x58]) :
    ∃ mk, formOf f = .ok (.legacy mk) ∧ ∀ rest, mk rest ∈ legacyInstrs rest := by
  simp only [List.mem_cons, List.not_mem_nil, or_false] at h
  obtain h | h | h | h | h | h | h | h := h <;>
    exact ⟨_, by rw [formOf, h]; rfl, fun _ => by simp [legacyInstrs]⟩

end Sys2Proof

namespace Sys2Proof.Machine

theorem exec_of_legacy {i : Instr} {rest : BitVec 56} (h : i ∈ legacyInstrs rest) (s : State) :
    exec i s = .next (raise (.unsupportedFeature s.pc .legacyPacket) s) := by
  simp only [legacyInstrs, List.mem_cons, List.not_mem_nil, or_false] at h
  obtain rfl | rfl | rfl | rfl | rfl | rfl | rfl | rfl := h <;> rfl

theorem admitsSlots_iff {c : Config} {n : Nat} :
    admitsSlots c n = true ↔ 1 ≤ n ∧ ∀ k, c.programMaxSlots = some k → n ≤ k := by
  unfold admitsSlots
  cases c.programMaxSlots <;> simp

/-! ## Words that are no instruction -/

section
variable {s : State} {w : Word}

/-- A step at a word that the decoder does not accept is illegal (rules R116, R352). -/
theorem illegalStep_of_not_accepted (hrun : RunsWord s w)
    (h : ∀ i, decode s.cfg.localCallField w s.text[s.pc + 1]? ≠ .ok i) : IllegalStep s w := by
  obtain ⟨hstatus, hw⟩ := hrun
  cases hd : decode s.cfg.localCallField w s.text[s.pc + 1]? with
  | error e => exact step_of_fetch_error hstatus (fetch_of_decode_error hw hd)
  | ok i => exact absurd hd (h i)

/-- So is a step at a word whose fields select no row. -/
theorem illegalStep_of_no_row {e : DecodeError} (hrun : RunsWord s w) (h : formOf (Fields.ofWord w) = .error e) :
    IllegalStep s w :=
  illegalStep_of_not_accepted hrun fun i hd => by
    obtain ⟨form, hform, -⟩ := decode_eq_ok_iff.1 hd
    cases h.symm.trans hform

end

/-! ## The obligations -/

/-- Settles O18: every well-formed instruction decodes back from the words of its encoding, and so from their bytes. -/
theorem decodeOfEncode : Obligations.DecodeOfEncode :=
  fun bo _ _ rest hwf => decodeBytes_encodeBytes bo rest (decodesBack hwf)

/-- Settles O19: the words that a row accepts are the encoding of the instruction it gives. -/
theorem encodeOfDecode : Obligations.EncodeOfDecode := by
  intro lcf w w2 i h
  obtain ⟨form, hform, hacc⟩ := decode_eq_ok_iff.1 h
  exact ⟨wf_of_decode h, encode_of_accepts (makesEncoding_of_formOf hform) hacc⟩

/-- Settles O3, slot by slot. -/
theorem loadingDecodesTheImage : Obligations.LoadingDecodesTheImage := by
  intro cfg ws mem env
  have himage := imageWords_flatMap_slotBytes cfg.byteOrder ws
  exact ⟨himage, by simp only [State.loadImage, himage, admitsSlots_iff]⟩

/-- Settles O23: an opcode with a row is a defined one; the rest is the list of the defined ones. -/
theorem undefinedOpcodesAreIllegal : Obligations.UndefinedOpcodesAreIllegal := by
  refine ⟨fun s w hrun hop => ?_, rfl, by decide, by decide, rfl, rfl, rfl, rfl, by decide⟩
  cases hform : formOf (Fields.ofWord w) with
  | error e => exact illegalStep_of_no_row hrun hform
  | ok form => exact absurd (mem_definedOpcodes_of_formOf hform) hop

/-- Settles O24, family by family of shared opcodes: no row has the selector. -/
theorem undefinedSelectorsAreIllegal : Obligations.UndefinedSelectorsAreIllegal := by
  intro s w hrun h
  obtain ⟨hop | hop, hsel⟩ | ⟨hop | hop, hsel⟩ | ⟨hop, hsel⟩ | ⟨hop, hsel⟩ := h <;>
    refine illegalStep_of_no_row (e := .undefinedSelector) hrun ?_ <;>
    simp only [List.mem_cons, List.not_mem_nil, or_false, not_or] at hsel
  · simp [formOf_of_le hop, leForm, hsel]
  · simp [formOf_of_be hop, beForm, hsel]
  · simp [formOf_of_atomic32 hop, atomic32Form, hsel]
  · simp [formOf_of_atomic64 hop, atomic64Form, hsel]
  · simp [formOf_of_call hop, callForm, hsel]
  · simp [formOf_of_wide hop, immForm, hsel]

/-- Settles O25: an accepted word with opcode 0x18 comes with its second slot. -/
theorem wideInstructionNeedsItsSecondSlot : Obligations.WideInstructionNeedsItsSecondSlot := by
  intro s w hrun hop hbad
  refine illegalStep_of_not_accepted hrun fun i hd => ?_
  obtain ⟨next, hslot, hclear⟩ := secondSlot_of_decode hop hd
  obtain ⟨hlow, hhigh⟩ := secondSlot_halves next
  obtain hnone | ⟨v, hv, hnz⟩ | ⟨v, hv, hnz, hsub⟩ := hbad
  · cases hslot.symm.trans hnone
  · cases hslot.symm.trans hv; exact hnz hlow
  · cases hslot.symm.trans hv; exact hnz (hhigh.trans (hclear hsub))

/-- Settles O26: a legacy row accepts every word, and its instructions raise the fault. -/
theorem legacyOpcodesAreUnsupported : Obligations.LegacyOpcodesAreUnsupported := by
  refine ⟨fun s w ⟨hstatus, hw⟩ hop => ?_, fun s rest i hi => exec_of_legacy hi s⟩
  obtain ⟨mk, hform, hmk⟩ := formOf_of_legacy hop
  have hd (w2 : Option Word) : decode s.cfg.localCallField w w2 = .ok (mk (w.extractLsb' 8 56)) := by
    rw [decode, hform]; rfl
  refine ⟨⟨_, hd _⟩, ?_⟩
  rw [step_of_fetch_ok hstatus (fetch_of_decode hw (hd _)), exec_of_legacy (hmk _), betweenSteps_pc]

/-- Settles O20: the word is the encoding of `r1 += 0x11223344`, and the bytes are those of its slot. -/
theorem sourceEncodingExample : Obligations.SourceEncodingExample := by
  have henc : encode (.add64Imm 1 0x11223344) = [0x1122334400000107] := by decide
  have hle : slotBytes .le 0x1122334400000107 = [0x07, 0x01, 0x00, 0x00, 0x44, 0x33, 0x22, 0x11] := by decide
  have hbe : slotBytes .be 0x1122334400000107 = [0x07, 0x10, 0x00, 0x00, 0x11, 0x22, 0x33, 0x44] := by decide
  have himage (bo : ByteOrder) := imageWords_flatMap_slotBytes bo [0x1122334400000107]
  have hdec (bo : ByteOrder) (lcf : LocalCallField) := decodeOfEncode bo lcf (.add64Imm 1 0x11223344) [] rfl
  simp only [encodeBytes, henc, List.flatMap_singleton, List.append_nil] at himage hdec
  exact ⟨hle ▸ himage .le, hbe ▸ himage .be, by decide, fun lcf => hle ▸ hdec .le lcf, fun lcf => hbe ▸ hdec .be lcf⟩

/-- Settles O22: opcode 0x00 has no row. -/
theorem opcodeZeroIsIllegal : Obligations.OpcodeZeroIsIllegal :=
  fun _ _ hrun hop => illegalStep_of_no_row (e := .secondSlot) hrun (by rw [formOf, hop]; rfl)

end Sys2Proof.Machine

/-! Proofs about the arithmetic instructions. `AluStep` says once how an instruction of two operands runs, at either
width; what an operation computes is stated of the operation, and the instruction writes its result. At the end, words
the spec writes out. -/

namespace Sys2Proof.Machine

/-! ## Operands and results -/

/-- The sign-extended immediate is the same integer at 64 bits (rule R107). -/
theorem sextImm_eq_ofInt (imm : BitVec 32) : sextImm imm = BitVec.ofInt 64 imm.toInt := rfl

@[simp] theorem low32_toNat (v : Word) : (low32 v).toNat = v.toNat % 2 ^ 32 := BitVec.toNat_setWidth 32 v

/-- The low half of a value is the value modulo 2^32, read as signed or not (rule R34). -/
theorem low32_eq_ofInt (v : Word) : low32 v = BitVec.ofInt 32 v.toInt :=
  (BitVec.signExtend_eq_setWidth_of_le v (by decide)).symm

theorem zext32_eq_ofNat (v : BitVec 32) : zext32 v = BitVec.ofNat 64 v.toNat := (BitVec.ofNat_toNat 64 v).symm

theorem ofNat_mod_two_pow (w n : Nat) : BitVec.ofNat w (n % 2 ^ w) = BitVec.ofNat w n :=
  BitVec.eq_of_toNat_eq (by simp)

/-! ## What the operations compute -/

section
variable {w : Nat}

theorem opAdd_ofInt (x y : Int) : opAdd (BitVec.ofInt w x) (BitVec.ofInt w y) = BitVec.ofInt w (x + y) :=
  (BitVec.ofInt_add ..).symm

theorem opSub_ofInt (x y : Int) : opSub (BitVec.ofInt w x) (BitVec.ofInt w y) = BitVec.ofInt w (x - y) := by
  rw [opSub, BitVec.sub_eq_add_neg, ← BitVec.ofInt_neg, ← BitVec.ofInt_add, sub_eq_add_neg]

theorem opMul_ofInt (x y : Int) : opMul (BitVec.ofInt w x) (BitVec.ofInt w y) = BitVec.ofInt w (x * y) :=
  (BitVec.ofInt_mul ..).symm

theorem opNeg_ofInt (x : Int) : opNeg (BitVec.ofInt w x) = BitVec.ofInt w (-x) := (BitVec.ofInt_neg ..).symm

theorem opDiv_toNat (a b : BitVec w) : (opDiv a b).toNat = if b.toNat = 0 then 0 else a.toNat / b.toNat := by
  have hlt : a.toNat / b.toNat < 2 ^ w := (Nat.div_le_self _ _).trans_lt a.isLt
  by_cases hb : b = 0
  · simp [opDiv, hb]
  · have hb' : b.toNat ≠ 0 := by simpa [BitVec.toNat_eq] using hb
    rw [opDiv, if_neg hb, if_neg hb', BitVec.toNat_ofNat, Nat.mod_eq_of_lt hlt]

theorem opMod_toNat (a b : BitVec w) : (opMod a b).toNat = if b.toNat = 0 then a.toNat else a.toNat % b.toNat := by
  have hlt : a.toNat % b.toNat < 2 ^ w := (Nat.mod_le _ _).trans_lt a.isLt
  by_cases hb : b = 0
  · simp [opMod, hb]
  · have hb' : b.toNat ≠ 0 := by simpa [BitVec.toNat_eq] using hb
    rw [opMod, if_neg hb, if_neg hb', BitVec.toNat_ofNat, Nat.mod_eq_of_lt hlt]

theorem shiftLeft_toNat (a : BitVec w) (n : Nat) : (a <<< n).toNat = a.toNat * 2 ^ n % 2 ^ w := by
  rw [BitVec.toNat_shiftLeft, Nat.shiftLeft_eq]

theorem ushiftRight_toNat (a : BitVec w) (n : Nat) : (a >>> n).toNat = a.toNat / 2 ^ n := by
  rw [BitVec.toNat_ushiftRight, Nat.shiftRight_eq_div_pow]

theorem sshiftRight_eq_ofInt (a : BitVec w) (n : Nat) : a.sshiftRight n = BitVec.ofInt w (a.toInt / 2 ^ n) := by
  rw [BitVec.sshiftRight, Int.shiftRight_eq_div_pow]; norm_cast

end

/-! ## The amount of a shift -/

section
variable {s : State} {w b n : Nat}

theorem shiftAmount_of_shiftBy (h : ShiftBy s.cfg w b n) : shiftAmount s w b = .ok n := by
  obtain ⟨hp, rfl⟩ | ⟨hp, hlt, rfl⟩ := h
  · simp [shiftAmount, hp]
  · simp [shiftAmount, hp, hlt]

theorem shiftAmount_of_refused (hp : s.cfg.shiftPolicy = .refuse) (h : w ≤ b) :
    shiftAmount s w b = .error (.unsupportedFeature s.pc .shiftAmount) := by
  simp [shiftAmount, hp, Nat.not_lt.2 h, unsupported]

end

/-! ## Running an instruction -/

/-- An instruction whose last stage is the write of `v` to `d` completes with it (rules R39, R46). -/
theorem completes_of_writeBack {i : Instr} {s : State} {d : Reg} {v : Word}
    (h : exec i s = settle s (writeBack s d v)) : Completes i s (s.write d v) := goesTo_of_goTo h rfl rfl

/-- An instruction that writes a value which no register gives. -/
theorem completes_of_constant {i : Instr} {s : State} {d : Reg} {v : Word} (hd : d ≠ 10)
    (h : exec i s = settle s (checkWritable s d >>= fun _ => writeBack s d v)) : Completes i s (s.write d v) :=
  completes_of_writeBack (by rw [h, checkWritable_of_ne s hd, ok_bind])

/-- An instruction that writes a function of one register's value. -/
theorem completes_of_unary {i : Instr} {s : State} {pos : ReadPos} {d r : Reg} {a : Word} {g : Word → Word}
    (hd : d ≠ 10) (ha : readReg s pos r = .ok a)
    (h : exec i s = settle s (checkWritable s d >>= fun _ => readReg s pos r >>= fun b => writeBack s d (g b))) :
    Completes i s (s.write d (g a)) :=
  completes_of_writeBack (by rw [h, checkWritable_of_ne s hd, ok_bind, ha, ok_bind])

/-- With its operands read as `a` and `b`, instruction `i` does the operation `f` of width `w` and writes the result,
zero-extended, to `d` (rules R34, R141). -/
def AluStep {w : Nat} (i : Instr) (s : State) (d : Reg) (f : AluOp w) (a b : BitVec w) : Prop :=
  exec i s = settle s (f s a b >>= fun v => writeBack s d (v.setWidth 64))

section
variable {i : Instr} {s : State} {d r : Reg} {a b : Word} {imm : BitVec 32}

theorem aluStep_imm64 {f : AluOp 64} (hd : d ≠ 10) (ha : readReg s .dst d = .ok a)
    (h : exec i s = aluK64 f d imm s) : AluStep i s d f a (sextImm imm) := by
  simp [AluStep, h, aluK64, checkWritable_of_ne s hd, ha]

theorem aluStep_reg64 {f : AluOp 64} (hd : d ≠ 10) (ha : readReg s .dst d = .ok a) (hb : readReg s .src r = .ok b)
    (h : exec i s = aluX64 f d r s) : AluStep i s d f a b := by
  simp [AluStep, h, aluX64, checkWritable_of_ne s hd, ha, hb]

theorem aluStep_imm32 {f : AluOp 32} (hd : d ≠ 10) (ha : readReg s .dst d = .ok a)
    (h : exec i s = aluK32 f d imm s) : AluStep i s d f (low32 a) imm := by
  simp [AluStep, h, aluK32, checkWritable_of_ne s hd, ha, zext32]

theorem aluStep_reg32 {f : AluOp 32} (hd : d ≠ 10) (ha : readReg s .dst d = .ok a) (hb : readReg s .src r = .ok b)
    (h : exec i s = aluX32 f d r s) : AluStep i s d f (low32 a) (low32 b) := by
  simp [AluStep, h, aluX32, checkWritable_of_ne s hd, ha, hb, zext32]

end

section
variable {w n : Nat} {i j k : Instr} {s : State} {d : Reg} {a b v : BitVec w} {f : AluOp w}

theorem AluStep.completes (h : AluStep i s d f a b) (hv : f s a b = .ok v) :
    Completes i s (s.write d (v.setWidth 64)) :=
  completes_of_writeBack (by rw [h, hv, ok_bind])

theorem AluStep.completes_toNat (h : AluStep i s d f a b) (hv : f s a b = .ok v) (hn : v.toNat = n) :
    Completes i s (s.write d (BitVec.ofNat 64 n)) := by
  rw [← hn, BitVec.ofNat_toNat]
  exact h.completes hv

theorem AluStep.raises {e : Fault} (h : AluStep i s d f a b) (he : f s a b = .error e) : Raises i s e := by
  rw [Raises, h, he, error_bind, settle_error]

/-- Addition, subtraction and multiplication are exact modulo 2^w, whichever integers stand for the operands. -/
theorem addSubMul_complete {x y : Int} (hadd : AluStep i s d (total opAdd) a b) (hsub : AluStep j s d (total opSub) a b)
    (hmul : AluStep k s d (total opMul) a b) (ha : a = BitVec.ofInt w x) (hb : b = BitVec.ofInt w y) :
    Completes i s (s.write d ((BitVec.ofInt w (x + y)).setWidth 64)) ∧
    Completes j s (s.write d ((BitVec.ofInt w (x - y)).setWidth 64)) ∧
    Completes k s (s.write d ((BitVec.ofInt w (x * y)).setWidth 64)) := by
  subst ha hb
  exact ⟨opAdd_ofInt x y ▸ hadd.completes rfl, opSub_ofInt x y ▸ hsub.completes rfl,
    opMul_ofInt x y ▸ hmul.completes rfl⟩

theorem bitwise_complete (hor : AluStep i s d (total opOr) a b) (hand : AluStep j s d (total opAnd) a b)
    (hxor : AluStep k s d (total opXor) a b) :
    Completes i s (s.write d (BitVec.ofNat 64 (a.toNat ||| b.toNat))) ∧
    Completes j s (s.write d (BitVec.ofNat 64 (a.toNat &&& b.toNat))) ∧
    Completes k s (s.write d (BitVec.ofNat 64 (a.toNat ^^^ b.toNat))) :=
  ⟨hor.completes_toNat rfl (BitVec.toNat_or ..), hand.completes_toNat rfl (BitVec.toNat_and ..),
    hxor.completes_toNat rfl (BitVec.toNat_xor ..)⟩

theorem divMod_complete (hdiv : AluStep i s d (total opDiv) a b) (hmod : AluStep j s d (total opMod) a b) :
    Completes i s (s.write d (BitVec.ofNat 64 (if b.toNat = 0 then 0 else a.toNat / b.toNat))) ∧
    Completes j s (s.write d (BitVec.ofNat 64 (if b.toNat = 0 then a.toNat else a.toNat % b.toNat))) :=
  ⟨hdiv.completes_toNat rfl (opDiv_toNat a b), hmod.completes_toNat rfl (opMod_toNat a b)⟩

/-- An amount that SHIFT_POLICY admits shifts (rule R144). -/
theorem shifts_complete (hlsh : AluStep i s d opLsh a b) (hrsh : AluStep j s d opRsh a b)
    (harsh : AluStep k s d opArsh a b) (hn : ShiftBy s.cfg w b.toNat n) :
    Completes i s (s.write d (BitVec.ofNat 64 (a.toNat * 2 ^ n % 2 ^ w))) ∧
    Completes j s (s.write d (BitVec.ofNat 64 (a.toNat / 2 ^ n))) ∧
    Completes k s (s.write d ((BitVec.ofInt w (a.toInt / 2 ^ n)).setWidth 64)) := by
  have hamount := shiftAmount_of_shiftBy hn
  refine ⟨hlsh.completes_toNat ?_ (shiftLeft_toNat a n), hrsh.completes_toNat ?_ (ushiftRight_toNat a n),
    sshiftRight_eq_ofInt a n ▸ harsh.completes ?_⟩
  · rw [opLsh, hamount, ok_bind]
  · rw [opRsh, hamount, ok_bind]
  · rw [opArsh, hamount, ok_bind]

/-- At 64 bits, where the result needs no extension. -/
theorem shifts_word_complete {a b : Word} (hlsh : AluStep i s d opLsh a b) (hrsh : AluStep j s d opRsh a b)
    (harsh : AluStep k s d opArsh a b) (hn : ShiftBy s.cfg 64 b.toNat n) :
    Completes i s (s.write d (BitVec.ofNat 64 (a.toNat * 2 ^ n))) ∧
    Completes j s (s.write d (BitVec.ofNat 64 (a.toNat / 2 ^ n))) ∧
    Completes k s (s.write d (BitVec.ofInt 64 (a.toInt / 2 ^ n))) := by
  simpa only [BitVec.setWidth_eq, ofNat_mod_two_pow] using shifts_complete hlsh hrsh harsh hn

/-- At 32 bits, of the value whose low half is shifted (rule R34). -/
theorem shifts_low32_complete {a : Word} {b : BitVec 32} (hlsh : AluStep i s d opLsh (low32 a) b)
    (hrsh : AluStep j s d opRsh (low32 a) b) (harsh : AluStep k s d opArsh (low32 a) b)
    (hn : ShiftBy s.cfg 32 b.toNat n) :
    Completes i s (s.write d (BitVec.ofNat 64 (a.toNat * 2 ^ n % 2 ^ 32))) ∧
    Completes j s (s.write d (BitVec.ofNat 64 (a.toNat % 2 ^ 32 / 2 ^ n))) ∧
    Completes k s (s.write d ((BitVec.ofInt 32 ((low32 a).toInt / 2 ^ n)).setWidth 64)) := by
  simpa only [low32_toNat, Nat.mod_mul_mod] using shifts_complete hlsh hrsh harsh hn

/-- An amount that SHIFT_POLICY refuses raises the fault (rule R144). -/
theorem shifts_raise (hlsh : AluStep i s d opLsh a b) (hrsh : AluStep j s d opRsh a b)
    (harsh : AluStep k s d opArsh a b) (hp : s.cfg.shiftPolicy = .refuse) (hb : w ≤ b.toNat) :
    ∀ x ∈ [i, j, k], Raises x s (.unsupportedFeature s.pc .shiftAmount) := by
  have hamount := shiftAmount_of_refused hp hb
  simp only [List.forall_mem_cons]
  refine ⟨hlsh.raises ?_, hrsh.raises ?_, harsh.raises ?_, nofun⟩
  · rw [opLsh, hamount, error_bind]
  · rw [opRsh, hamount, error_bind]
  · rw [opArsh, hamount, error_bind]

end

/-! ## Words of the tables -/

/-- A word of the tables whose slots are the encoding of `i`, and what is after it, decodes to `i`. -/
theorem decodeTableWord_of_encode {nbits w : Nat} {i : Instr} {rest : List Word}
    (hwf : i.wf Config.reference.localCallField = true)
    (h : [(tableWords nbits w).1, (tableWords nbits w).2] = encode i ++ rest) : decodeTableWord nbits w = some i := by
  have hbytes (bo : ByteOrder) : slotBytes bo (tableWords nbits w).1 ++ slotBytes bo (tableWords nbits w).2 =
      encodeBytes bo i ++ rest.flatMap (slotBytes bo) := by
    rw [encodeBytes, ← List.flatMap_append, ← h, List.flatMap_cons, List.flatMap_singleton]
  simp only [decodeTableWord, hbytes, decodeOfEncode _ _ i _ hwf]

/-! ## The obligations -/

/-- Settles O30: both operands are the integers they stand for. -/
theorem addSubMul64 : Obligations.AddSubMul64 := by
  intro s d a hd ha
  have hx : a = BitVec.ofInt 64 a.toInt := (BitVec.ofInt_toInt ..).symm
  refine ⟨fun imm => ?_, fun r b hb => ?_⟩
  · have hstep {i : Instr} {f : AluOp 64} := aluStep_imm64 (i := i) (f := f) (imm := imm) hd ha
    simpa only [BitVec.setWidth_eq] using
      addSubMul_complete (hstep rfl) (hstep rfl) (hstep rfl) hx (sextImm_eq_ofInt imm)
  · have hstep {i : Instr} {f : AluOp 64} := aluStep_reg64 (i := i) (f := f) hd ha hb
    simpa only [BitVec.setWidth_eq] using
      addSubMul_complete (hstep rfl) (hstep rfl) (hstep rfl) hx (BitVec.ofInt_toInt ..).symm

/-- Settles O31: the low half of an operand is the integer it stands for, modulo 2^32. -/
theorem addSubMul32 : Obligations.AddSubMul32 := by
  intro s d a hd ha
  refine ⟨fun imm => ?_, fun r b hb => ?_⟩
  · have hstep {i : Instr} {f : AluOp 32} := aluStep_imm32 (i := i) (f := f) (imm := imm) hd ha
    exact addSubMul_complete (hstep rfl) (hstep rfl) (hstep rfl) (low32_eq_ofInt a) (BitVec.ofInt_toInt ..).symm
  · have hstep {i : Instr} {f : AluOp 32} := aluStep_reg32 (i := i) (f := f) hd ha hb
    exact addSubMul_complete (hstep rfl) (hstep rfl) (hstep rfl) (low32_eq_ofInt a) (low32_eq_ofInt b)

/-- Settles O32: the low half of the operation is the operation of the low halves. -/
theorem bitwise : Obligations.Bitwise := by
  intro s d a hd ha
  refine ⟨fun imm => ?_, fun r b hb => ?_⟩
  · have h64 (i : Instr) {f : AluOp 64} := aluStep_imm64 (i := i) (f := f) (imm := imm) hd ha
    have h32 (i : Instr) {f : AluOp 32} := aluStep_imm32 (i := i) (f := f) (imm := imm) hd ha
    obtain ⟨hor, hand, hxor⟩ :=
      bitwise_complete (h64 (.or64Imm d imm) rfl) (h64 (.and64Imm d imm) rfl) (h64 (.xor64Imm d imm) rfl)
    refine ⟨hor, hand, hxor, ?_⟩
    simpa only [low32_toNat] using bitwise_complete (h32 _ rfl) (h32 _ rfl) (h32 _ rfl)
  · have h64 (i : Instr) {f : AluOp 64} := aluStep_reg64 (i := i) (f := f) hd ha hb
    have h32 (i : Instr) {f : AluOp 32} := aluStep_reg32 (i := i) (f := f) hd ha hb
    obtain ⟨hor, hand, hxor⟩ :=
      bitwise_complete (h64 (.or64Reg d r) rfl) (h64 (.and64Reg d r) rfl) (h64 (.xor64Reg d r) rfl)
    refine ⟨hor, hand, hxor, ?_⟩
    simpa only [low32_toNat, Nat.or_mod_two_pow, Nat.and_mod_two_pow, Nat.xor_mod_two_pow] using
      bitwise_complete (h32 _ rfl) (h32 _ rfl) (h32 _ rfl)

/-- Settles O33, at each width with an immediate and with a register. -/
theorem divisionAndModulo : Obligations.DivisionAndModulo := by
  intro s d a hd ha
  refine ⟨fun imm => ?_, fun imm => ?_, fun r v hv => ?_, fun r v hv => ?_⟩
  · exact divMod_complete (aluStep_imm64 hd ha rfl) (aluStep_imm64 hd ha rfl)
  · simpa only [low32_toNat] using divMod_complete (aluStep_imm32 hd ha rfl) (aluStep_imm32 hd ha rfl)
  · exact divMod_complete (aluStep_reg64 hd ha hv rfl) (aluStep_reg64 hd ha hv rfl)
  · simpa only [low32_toNat] using divMod_complete (aluStep_reg32 hd ha hv rfl) (aluStep_reg32 hd ha hv rfl)

/-- Settles O34: the amount operand is the sign-extended immediate or the register. -/
theorem shifts64 : Obligations.Shifts64 := by
  intro s d a hd ha
  refine ⟨fun imm => ?_, fun r v hv => ?_⟩
  · have hstep {i : Instr} {f : AluOp 64} := aluStep_imm64 (i := i) (f := f) (imm := imm) hd ha
    exact ⟨fun _ => shifts_word_complete (hstep rfl) (hstep rfl) (hstep rfl),
      shifts_raise (hstep rfl) (hstep rfl) (hstep rfl)⟩
  · have hstep {i : Instr} {f : AluOp 64} := aluStep_reg64 (i := i) (f := f) hd ha hv
    exact ⟨fun _ => shifts_word_complete (hstep rfl) (hstep rfl) (hstep rfl),
      shifts_raise (hstep rfl) (hstep rfl) (hstep rfl)⟩

/-- Settles O35: the amount operand is the immediate as it stands or the low half of the register. -/
theorem shifts32 : Obligations.Shifts32 := by
  intro s d a hd ha
  refine ⟨fun imm => ?_, fun r v hv => ?_⟩
  · have hstep {i : Instr} {f : AluOp 32} := aluStep_imm32 (i := i) (f := f) (imm := imm) hd ha
    exact ⟨fun _ => shifts_low32_complete (hstep rfl) (hstep rfl) (hstep rfl),
      shifts_raise (hstep rfl) (hstep rfl) (hstep rfl)⟩
  · have hstep {i : Instr} {f : AluOp 32} := aluStep_reg32 (i := i) (f := f) hd ha hv
    rw [← low32_toNat v]
    exact ⟨fun _ => shifts_low32_complete (hstep rfl) (hstep rfl) (hstep rfl),
      shifts_raise (hstep rfl) (hstep rfl) (hstep rfl)⟩

/-- Settles O36: negation is exact modulo 2^w, and the low half stands for the same integer. -/
theorem negation : Obligations.Negation := by
  intro s d a hd ha
  have h64 : opNeg a = BitVec.ofInt 64 (-a.toInt) := by rw [← opNeg_ofInt, BitVec.ofInt_toInt]
  have h32 : opNeg (low32 a) = BitVec.ofInt 32 (-a.toInt) := by rw [← opNeg_ofInt, low32_eq_ofInt]
  rw [← h64, ← h32]
  exact ⟨completes_of_unary hd ha rfl, completes_of_unary (g := fun b => zext32 (opNeg (low32 b))) hd ha rfl⟩

/-- Settles O37: a move reads its source operand alone. -/
theorem movesDoNotReadTheDestination : Obligations.MovesDoNotReadTheDestination := by
  intro s d hd
  refine ⟨fun imm => ⟨completes_of_constant hd rfl, ?_⟩,
    fun r b hb => ⟨completes_of_unary (g := id) hd hb rfl, ?_⟩⟩
  · rw [← zext32_eq_ofNat]
    exact completes_of_constant hd rfl
  · rw [← low32_toNat, ← zext32_eq_ofNat]
    exact completes_of_unary (g := fun b => zext32 (low32 b)) hd hb rfl

/-- Settles O21: each word is the encoding of its instruction; but for `lddw`, an empty slot follows. -/
theorem wordsDecodeAsTheSpecWritesThem : Obligations.WordsDecodeAsTheSpecWritesThem := by
  refine ⟨?_, ?_, ?_, ?_, ?_, ?_, ?_, ?_, ?_, ?_, decodeTableWord_of_encode (rest := []) rfl (by decide), ?_⟩
  all_goals exact decodeTableWord_of_encode (rest := [0]) rfl (by decide)

end Sys2Proof.Machine

/-! Proofs about the byte swaps. Both results of a swap are bytes joined together, so two lemmas on `joinLow` carry
the statement: its bytes are the list's, and it has no others. -/

namespace Sys2Proof.Machine

/-! ## Values joined from bytes -/

/-- A value has no bytes but those it was joined from. -/
theorem joinLow_toNat_lt (bs : List Byte) : (joinLow bs).toNat < 2 ^ (8 * bs.length) := by
  induction bs with
  | nil => decide
  | cons b bs ih =>
    rw [joinLow, BitVec.toNat_or, List.length_cons]
    refine Nat.or_lt_two_pow ?_ ?_
    · calc (joinLow bs <<< 8).toNat
        _ = (joinLow bs).toNat * 2 ^ 8 % 2 ^ 64 := shiftLeft_toNat ..
        _ ≤ (joinLow bs).toNat * 2 ^ 8 := Nat.mod_le ..
        _ < 2 ^ (8 * bs.length) * 2 ^ 8 := Nat.mul_lt_mul_of_pos_right ih (by decide)
        _ = 2 ^ (8 * (bs.length + 1)) := by rw [← Nat.pow_add, Nat.mul_succ]
    · calc (b.zeroExtend 64).toNat
        _ ≤ b.toNat := by simpa using Nat.mod_le ..
        _ < 2 ^ 8 := b.isLt
        _ ≤ 2 ^ (8 * (bs.length + 1)) := Nat.pow_le_pow_right (by decide) (by omega)

theorem extractLsb'_joinLow_cons_zero (b : Byte) (bs : List Byte) :
    (joinLow (b :: bs)).extractLsb' (8 * 0) 8 = b := by
  refine BitVec.eq_of_getLsbD_eq fun j hj => ?_
  simp [joinLow, hj, show j < 64 by omega]

/-- Within a word, the bytes after the first are those of the value that was shifted. -/
theorem extractLsb'_joinLow_cons_succ (b : Byte) (bs : List Byte) {k : Nat} (hk : k + 1 < 8) :
    (joinLow (b :: bs)).extractLsb' (8 * (k + 1)) 8 = (joinLow bs).extractLsb' (8 * k) 8 := by
  refine BitVec.eq_of_getLsbD_eq fun j hj => ?_
  have hword : 8 * (k + 1) + j < 64 := by omega
  have hlow : 8 * k + j < 64 := by omega
  have hpast : ¬ 8 * (k + 1) + j < 8 := by omega
  have hback : 8 * (k + 1) + j - 8 = 8 * k + j := by omega
  have hb : b.getLsbD (8 * (k + 1) + j) = false := BitVec.getLsbD_of_ge b _ (by omega)
  simp [joinLow, hj, hword, hlow, hpast, hback, hb]

/-- Byte `k` of a value is the `k`-th of the bytes it was joined from, of which a word holds eight. -/
theorem extractLsb'_joinLow (bs : List Byte) {k : Nat} (hk : k < 8) (h : k < bs.length) :
    (joinLow bs).extractLsb' (8 * k) 8 = bs[k] := by
  induction bs generalizing k with
  | nil => exact absurd h (Nat.not_lt_zero k)
  | cons b bs ih =>
    cases k with
    | zero => exact extractLsb'_joinLow_cons_zero b bs
    | succ k =>
      rw [extractLsb'_joinLow_cons_succ b bs hk, List.getElem_cons_succ]
      exact ih (Nat.lt_of_succ_lt hk) (Nat.lt_of_succ_lt_succ h)

/-! ## The two results of a swap -/

section
variable (v : Word) {n k : Nat}

theorem lowBytes_toNat_lt (n : Nat) : (lowBytes n v).toNat < 2 ^ (8 * n) := by
  simpa [joinLow_splitLow] using joinLow_toNat_lt (splitLow v n)

theorem reverseBytes_toNat_lt (n : Nat) : (reverseBytes n v).toNat < 2 ^ (8 * n) := by
  simpa [reverseBytes] using joinLow_toNat_lt (splitLow v n).reverse

theorem extractLsb'_lowBytes (hn : n ≤ 8) (hk : k < n) :
    (lowBytes n v).extractLsb' (8 * k) 8 = v.extractLsb' (8 * k) 8 := by
  rw [← joinLow_splitLow, extractLsb'_joinLow _ (hk.trans_le hn) (by simpa using hk), splitLow_getElem]

theorem extractLsb'_reverseBytes (hn : n ≤ 8) (hk : k < n) :
    (reverseBytes n v).extractLsb' (8 * k) 8 = v.extractLsb' (8 * (n - 1 - k)) 8 := by
  rw [reverseBytes, extractLsb'_joinLow _ (hk.trans_le hn) (by simpa using hk)]
  exact layout_be_getElem n v (by simpa using hk)

end

/-! ## The obligation -/

/-- An instruction that swaps completes with the low bytes kept or reversed, by the host's byte order (rule R200). -/
theorem completes_of_swapTo {i : Instr} {s : State} {target : ByteOrder} {n : Nat} {d : Reg} {a : Word}
    (hd : d ≠ 10) (ha : readReg s .dst d = .ok a) (h : exec i s = swapTo target n d s) :
    Completes i s (s.write d (if s.cfg.byteOrder = target then lowBytes n a else reverseBytes n a)) :=
  completes_of_unary (g := fun b => if s.cfg.byteOrder = target then lowBytes n b else reverseBytes n b) hd ha h

/-- Settles O38: each of the six is a swap of at most eight bytes, and by the byte order its result is one of two. -/
theorem byteSwaps : Obligations.ByteSwaps := by
  intro s d a hd ha p hp
  have hswap : exec p.1 s = swapTo p.2.1 p.2.2 d s ∧ p.2.2 ≤ 8 := by
    revert p
    simp only [List.forall_mem_cons]
    exact ⟨⟨rfl, by decide⟩, ⟨rfl, by decide⟩, ⟨rfl, by decide⟩, ⟨rfl, by decide⟩, ⟨rfl, by decide⟩,
      ⟨rfl, by decide⟩, nofun⟩
  obtain ⟨hexec, hn⟩ := hswap
  refine ⟨_, completes_of_swapTo hd ha hexec, ?_⟩
  by_cases horder : s.cfg.byteOrder = p.2.1
  · simp only [if_pos horder]
    exact ⟨lowBytes_toNat_lt a _, fun k hk => extractLsb'_lowBytes a hn hk⟩
  · simp only [if_neg horder]
    exact ⟨reverseBytes_toNat_lt a _, fun k hk => extractLsb'_reverseBytes a hn hk⟩

end Sys2Proof.Machine

/-! Proofs about the jumps. `JccStep` says once how a conditional jump runs, at either width; which order of the
operands a condition tests is stated of the condition, and the jump follows it. -/

namespace Sys2Proof.Machine

/-- The sign-extended immediate compares, as a signed value, like the immediate (rule R107). -/
theorem sextImm_toInt (imm : BitVec 32) : (sextImm imm).toInt = imm.toInt :=
  BitVec.toInt_signExtend_of_le (by decide)

/-! ## What the conditions test (rule R212) -/

section
variable {w : Nat} (a b : BitVec w)

theorem condEq_iff : condEq a b = true ↔ a.toNat = b.toNat := beq_iff_eq.trans BitVec.toNat_eq

theorem condNe_iff : condNe a b = true ↔ a.toNat ≠ b.toNat := bne_iff_ne.trans BitVec.toNat_ne

theorem condSet_iff : condSet a b = true ↔ a.toNat &&& b.toNat ≠ 0 := by
  rw [condSet, bne_iff_ne, BitVec.toNat_ne, BitVec.toNat_and, BitVec.ofNat_eq_ofNat, BitVec.toNat_zero]

theorem condGt_iff : condGt a b = true ↔ a.toNat > b.toNat := decide_eq_true_iff

theorem condGe_iff : condGe a b = true ↔ a.toNat ≥ b.toNat := decide_eq_true_iff

theorem condLt_iff : condLt a b = true ↔ a.toNat < b.toNat := decide_eq_true_iff

theorem condLe_iff : condLe a b = true ↔ a.toNat ≤ b.toNat := decide_eq_true_iff

theorem condSgt_iff : condSgt a b = true ↔ a.toInt > b.toInt := decide_eq_true_iff

theorem condSge_iff : condSge a b = true ↔ a.toInt ≥ b.toInt := decide_eq_true_iff

theorem condSlt_iff : condSlt a b = true ↔ a.toInt < b.toInt := decide_eq_true_iff

theorem condSle_iff : condSle a b = true ↔ a.toInt ≤ b.toInt := decide_eq_true_iff

end

/-! ## Running a conditional jump -/

theorem branch_true (s : State) (off : BitVec 16) : branch s true off = goTo s (s.pc + 1 + off.toInt) := rfl

theorem branch_false (s : State) (off : BitVec 16) : branch s false off = goTo s (s.pc + 1) := rfl

/-- With its operands read as `a` and `b`, instruction `i` branches on the condition `c` of width `w` (rules R211,
R212). -/
def JccStep {w : Nat} (i : Instr) (s : State) (c : BitVec w → BitVec w → Bool) (a b : BitVec w) (off : BitVec 16) :
    Prop :=
  exec i s = settle s (branch s (c a b) off)

section
variable {i : Instr} {s : State} {d r : Reg} {a b : Word} {imm : BitVec 32} {off : BitVec 16}

theorem jccStep_imm64 {c : Word → Word → Bool} (ha : readReg s .dst d = .ok a)
    (h : exec i s = jccK64 c d imm off s) : JccStep i s c a (sextImm imm) off := by
  rw [JccStep, h, jccK64, ha, ok_bind]

theorem jccStep_reg64 {c : Word → Word → Bool} (ha : readReg s .dst d = .ok a) (hb : readReg s .src r = .ok b)
    (h : exec i s = jccX64 c d r off s) : JccStep i s c a b off := by
  rw [JccStep, h, jccX64, ha, ok_bind, hb, ok_bind]

theorem jccStep_imm32 {c : BitVec 32 → BitVec 32 → Bool} (ha : readReg s .dst d = .ok a)
    (h : exec i s = jccK32 c d imm off s) : JccStep i s c (low32 a) imm off := by
  rw [JccStep, h, jccK32, ha, ok_bind]

theorem jccStep_reg32 {c : BitVec 32 → BitVec 32 → Bool} (ha : readReg s .dst d = .ok a)
    (hb : readReg s .src r = .ok b) (h : exec i s = jccX32 c d r off s) :
    JccStep i s c (low32 a) (low32 b) off := by
  rw [JccStep, h, jccX32, ha, ok_bind, hb, ok_bind]

end

section
variable {w : Nat} {s : State} {a b : BitVec w} {off : BitVec 16}

/-- A jump whose condition tests `p` goes to the target when `p` holds and to the next slot when not. -/
theorem JccStep.jumpsIf {i : Instr} {c : BitVec w → BitVec w → Bool} {p : Prop} (h : JccStep i s c a b off)
    (hp : c a b = true ↔ p) : JumpsIf i s p off := by
  refine ⟨fun htaken => goesTo_of_goTo ?_ rfl rfl, fun hnot => goesTo_of_goTo ?_ rfl rfl⟩
  · rw [h, hp.2 htaken, branch_true]
  · rw [h, Bool.eq_false_iff.2 (mt hp.1 hnot), branch_false]

/-- The eleven conditions of a class on one pair of operands, in the order of their codes (rule R103). -/
theorem conditions_jump {jeq jgt jge jset jne jsgt jsge jlt jle jslt jsle : Instr}
    (heq : JccStep jeq s condEq a b off) (hgt : JccStep jgt s condGt a b off) (hge : JccStep jge s condGe a b off)
    (hset : JccStep jset s condSet a b off) (hne : JccStep jne s condNe a b off)
    (hsgt : JccStep jsgt s condSgt a b off) (hsge : JccStep jsge s condSge a b off)
    (hlt : JccStep jlt s condLt a b off) (hle : JccStep jle s condLe a b off)
    (hslt : JccStep jslt s condSlt a b off) (hsle : JccStep jsle s condSle a b off) :
    JumpsIf jeq s (a.toNat = b.toNat) off ∧
    JumpsIf jgt s (a.toNat > b.toNat) off ∧
    JumpsIf jge s (a.toNat ≥ b.toNat) off ∧
    JumpsIf jset s (a.toNat &&& b.toNat ≠ 0) off ∧
    JumpsIf jne s (a.toNat ≠ b.toNat) off ∧
    JumpsIf jsgt s (a.toInt > b.toInt) off ∧
    JumpsIf jsge s (a.toInt ≥ b.toInt) off ∧
    JumpsIf jlt s (a.toNat < b.toNat) off ∧
    JumpsIf jle s (a.toNat ≤ b.toNat) off ∧
    JumpsIf jslt s (a.toInt < b.toInt) off ∧
    JumpsIf jsle s (a.toInt ≤ b.toInt) off :=
  ⟨heq.jumpsIf (condEq_iff a b), hgt.jumpsIf (condGt_iff a b), hge.jumpsIf (condGe_iff a b),
    hset.jumpsIf (condSet_iff a b), hne.jumpsIf (condNe_iff a b), hsgt.jumpsIf (condSgt_iff a b),
    hsge.jumpsIf (condSge_iff a b), hlt.jumpsIf (condLt_iff a b), hle.jumpsIf (condLe_iff a b),
    hslt.jumpsIf (condSlt_iff a b), hsle.jumpsIf (condSle_iff a b)⟩

end

/-! ## The obligations -/

/-- Settles O40: the second operand is the sign-extended immediate, which keeps its signed value, or the register. -/
theorem conditionalJumps64 : Obligations.ConditionalJumps64 := by
  intro s d a off ha
  refine ⟨fun imm => ?_, fun r b hb => ?_⟩
  · have hstep {i : Instr} {c : Word → Word → Bool} := jccStep_imm64 (i := i) (c := c) (imm := imm) (off := off) ha
    -- `↓`: a signed comparison loses the extension before the extension is rewritten as the integer it stands for
    simpa only [↓sextImm_toInt, sextImm_eq_ofInt] using conditions_jump (hstep rfl) (hstep rfl) (hstep rfl)
      (hstep rfl) (hstep rfl) (hstep rfl) (hstep rfl) (hstep rfl) (hstep rfl) (hstep rfl) (hstep rfl)
  · have hstep {i : Instr} {c : Word → Word → Bool} := jccStep_reg64 (i := i) (c := c) (off := off) ha hb
    exact conditions_jump (hstep rfl) (hstep rfl) (hstep rfl) (hstep rfl) (hstep rfl) (hstep rfl) (hstep rfl)
      (hstep rfl) (hstep rfl) (hstep rfl) (hstep rfl)

/-- Settles O41: the operands are low halves, or the immediate as it stands. -/
theorem conditionalJumps32 : Obligations.ConditionalJumps32 := by
  intro s d a off ha
  refine ⟨fun imm => ?_, fun r b hb => ?_⟩
  · have hstep {i : Instr} {c : BitVec 32 → BitVec 32 → Bool} :=
      jccStep_imm32 (i := i) (c := c) (imm := imm) (off := off) ha
    simp only [← low32_toNat]
    exact conditions_jump (hstep rfl) (hstep rfl) (hstep rfl) (hstep rfl) (hstep rfl) (hstep rfl) (hstep rfl)
      (hstep rfl) (hstep rfl) (hstep rfl) (hstep rfl)
  · have hstep {i : Instr} {c : BitVec 32 → BitVec 32 → Bool} := jccStep_reg32 (i := i) (c := c) (off := off) ha hb
    simp only [← low32_toNat]
    exact conditions_jump (hstep rfl) (hstep rfl) (hstep rfl) (hstep rfl) (hstep rfl) (hstep rfl) (hstep rfl)
      (hstep rfl) (hstep rfl) (hstep rfl) (hstep rfl)

/-- Settles O39: what `ja` does is stage 5 of the step, at the jump's target. -/
theorem unconditionalJump : Obligations.UnconditionalJump := fun _ _ => goesTo_of_goTo rfl rfl rfl

end Sys2Proof.Machine

/-! Proofs about calls and exit. Each instruction has its effect stated once, as a `GoesTo` or a `Raises`; the pairing
of a BPF-local call with its return is then read off the two effects. -/

namespace Sys2Proof.Machine

/-! ## Completing and raising -/

/-- An instruction that is still running afterwards has gone to its target, a slot of the program. -/
theorem eq_setPc_of_goesTo {i : Instr} {s t u : State} {target : Int} (hgo : GoesTo i s t target)
    (h : exec i s = .next u) (hu : u.status = .running) : InProgram s target ∧ u = t.setPc target.toNat := by
  obtain ⟨hin, hout⟩ := hgo
  by_cases htarget : InProgram s target
  · rw [hin htarget] at h
    exact ⟨htarget, (Host.Outcome.next.inj h).symm⟩
  · rw [hout htarget] at h
    obtain rfl := Host.Outcome.next.inj h
    cases hu

theorem not_running_of_raises {i : Instr} {s u : State} {f : Fault} (hraise : Raises i s f)
    (h : exec i s = .next u) : u.status ≠ .running := by
  rw [hraise] at h
  obtain rfl := Host.Outcome.next.inj h
  exact nofun

/-! ## Helper calls -/

/-- What a helper call does once its table entry is found and its arguments are read (rule R262). -/
theorem completes_of_callHelperIn {i : Instr} {space : HelperSpace} {imm : BitVec 32} {s : State} {h : Helper}
    {args : List Word} (hi : exec i s = settle s (callHelperIn space imm s))
    (hentry : helperOf s.cfg space imm.toInt = some h)
    (hargs : readRegs s .arg (argRegs.take h.arity.val) = .ok args) :
    Completes i s (applyHelper s (helperAnswer s space imm.toInt h.behaviour args)) := by
  refine goesTo_of_goTo ?_ (by simp) (by simp)
  rw [hi, callHelperIn, hentry]
  simp only [hargs, ok_bind, advance, applyHelper_pc, Nat.cast_one]

theorem exec_callHelper (imm : BitVec 32) (s : State) :
    exec (.callHelper imm) s = settle s (callHelperIn .agnostic imm s) := rfl

theorem exec_callPlatform {s : State} (imm : BitVec 32) (h : s.cfg.hasPlatformHelpers = true) :
    exec (.callPlatform imm) s = settle s (callHelperIn .platform imm s) := by
  show execCallPlatform imm s = _
  rw [execCallPlatform, if_pos h]

/-- The call of either space runs the helper of that space (rules R261, R263). -/
theorem exec_helperCall {s : State} {imm : BitVec 32} {p : HelperSpace × Instr}
    (hp : p ∈ [(HelperSpace.agnostic, Instr.callHelper imm), (.platform, .callPlatform imm)])
    (hfeature : p.1 = .platform → s.cfg.hasPlatformHelpers = true) :
    exec p.2 s = settle s (callHelperIn p.1 imm s) := by
  simp only [List.mem_cons, List.not_mem_nil, or_false] at hp
  obtain rfl | rfl := hp
  · exact exec_callHelper imm s
  · exact exec_callPlatform imm (hfeature rfl)

theorem readRegs_pair {s : State} {pos : ReadPos} {q r : Reg} {v w : Word} (hq : readReg s pos q = .ok v)
    (hr : readReg s pos r = .ok w) : readRegs s pos [q, r] = .ok [v, w] := by
  simp [readRegs, hq, hr]

/-- Leaving out cells that fail a test of the address does not change the last cell at an address that passes. -/
theorem find?_reverse_filter {p : Nat → Bool} {a : Nat} (cs : List Host.Cell) (h : p a = true) :
    (cs.filter (fun c => p c.1)).reverse.find? (fun c => c.1 == a) = cs.reverse.find? (fun c => c.1 == a) := by
  rw [← List.filter_reverse, List.find?_filter]
  congr 1
  funext c
  by_cases hc : c.1 = a <;> simp [hc, h]

theorem applyHelper_mem (s : State) (a : HelperAnswer) :
    (applyHelper s a).mem = Memory.setCells s.mem (a.cells.filter (fun c => inSomeRegion s.cfg c.1)) := by
  simp [applyHelper]

/-- In a region a helper's last write to a byte counts (rule R262). -/
theorem applyHelper_byteAt (s : State) (ans : HelperAnswer) {a : Nat} (h : inSomeRegion s.cfg a = true) :
    (applyHelper s ans).byteAt a =
      ((ans.cells.reverse.find? (fun c => c.1 == a)).map Prod.snd).getD (s.byteAt a) := by
  simp only [State.byteAt, applyHelper_mem, lookup_setCells, find?_reverse_filter _ h, applyHelper_cfg,
    applyHelper_draws]
  cases ans.cells.reverse.find? (fun c => c.1 == a) <;> simp

theorem reg_applyHelper_zero (s : State) (a : HelperAnswer) : (applyHelper s a).reg 0 = .value a.result := by
  simp [reg_applyHelper, argRegs]

theorem reg_applyHelper_arg (s : State) (a : HelperAnswer) {r : Reg} (h : r ∈ argRegs) :
    (applyHelper s a).reg r = .noValue := by
  simp [reg_applyHelper, h]

/-! ## BPF-local calls -/

theorem localCallDistance_eq_some {lcf : LocalCallField} {off : BitVec 16} {imm : BitVec 32} {d : Int} :
    localCallDistance lcf off imm = some d ↔
      (lcf = .offset ∧ imm = 0 ∧ d = off.toInt) ∨ (lcf = .imm ∧ off = 0 ∧ d = imm.toInt) := by
  cases lcf <;> simp [localCallDistance, localCallUnusedZero, eq_comm (a := d)]

theorem localCallDistance_eq_none {lcf : LocalCallField} {off : BitVec 16} {imm : BitVec 32} :
    localCallDistance lcf off imm = none ↔ (lcf = .offset ∧ imm ≠ 0) ∨ (lcf = .imm ∧ off ≠ 0) := by
  cases lcf <;> simp [localCallDistance, localCallUnusedZero]

theorem atDepthLimit_eq_false {s : State} :
    atDepthLimit s = false ↔ ∀ m, s.cfg.maxCallDepth = some m → s.callStack.length < m := by
  unfold atDepthLimit
  cases s.cfg.maxCallDepth <;> simp

section
variable {s : State} {off : BitVec 16} {imm : BitVec 32} {fp : Word} {distance : Int}

/-- The distance field that is not used must be zero (rule R264, log 12). -/
theorem raises_callLocal_of_no_distance (h : localCallDistance s.cfg.localCallField off imm = none) :
    Raises (.callLocal off imm) s (illegalHere s) := by
  show execCallLocal off imm s = _
  rw [execCallLocal, h, settle_error]

theorem raises_callLocal_at_limit (hfp : readReg s .frame 10 = .ok fp)
    (h : localCallDistance s.cfg.localCallField off imm = some distance) (hlimit : atDepthLimit s = true) :
    Raises (.callLocal off imm) s (.callDepthExceeded s.pc) := by
  show execCallLocal off imm s = _
  simp only [execCallLocal, h, hfp, ok_bind, if_pos hlimit, settle_error]

/-- Below the limit a BPF-local call pushes its frame and goes to its target (rule R264). -/
theorem goesTo_callLocal (hfp : readReg s .frame 10 = .ok fp)
    (h : localCallDistance s.cfg.localCallField off imm = some distance) (hlimit : atDepthLimit s = false) :
    GoesTo (.callLocal off imm) s (pushFrame s fp) (s.pc + 1 + distance) := by
  refine goesTo_of_goTo ?_ (by simp) (by simp)
  show execCallLocal off imm s = _
  simp only [execCallLocal, h, hfp, ok_bind, hlimit, Bool.false_eq_true, if_false, jumpTarget]

/-- A BPF-local call that completes has pushed its frame. -/
theorem callStack_of_callLocal {t : State} (hfp : readReg s .frame 10 = .ok fp)
    (h : exec (.callLocal off imm) s = .next t) (ht : t.status = .running) :
    t.callStack = callerFrame s fp :: s.callStack := by
  cases hd : localCallDistance s.cfg.localCallField off imm with
  | none => exact absurd ht (not_running_of_raises (raises_callLocal_of_no_distance hd) h)
  | some distance =>
    cases hlimit : atDepthLimit s with
    | true => exact absurd ht (not_running_of_raises (raises_callLocal_at_limit hfp hd hlimit) h)
    | false =>
      obtain ⟨-, rfl⟩ := eq_setPc_of_goesTo (goesTo_callLocal hfp hd hlimit) h ht
      simp

end

theorem reg_pushFrame_ten (s : State) (fp : Word) :
    (pushFrame s fp).reg 10 = .value (fp - s.cfg.frameStride) := by
  simp [reg_pushFrame]

/-- The callee finds no value in R0 and R6 to R9 (rule R265). -/
theorem reg_pushFrame_hidden (s : State) (fp : Word) {r : Reg} (h : r ∈ ([0, 6, 7, 8, 9] : List Reg)) :
    (pushFrame s fp).reg r = .noValue := by
  have hne : r ≠ 10 := by revert r; decide
  simp only [reg_pushFrame, if_neg hne, if_pos h]

/-! ## Exit -/

theorem exec_exit_of_empty {s : State} {v : Word} (hs : s.callStack = []) (hv : readReg s .r0 0 = .ok v) :
    exec .exit s = .next { s with status := .exited v } := by
  show execExit s = _
  simp only [execExit, hs, hv, ok_bind, settle_ok]

/-- Above depth 0 exit pops the innermost frame and goes to its return slot (rule R266). -/
theorem goesTo_exit {s : State} {fr : Frame} {rest : List Frame} (hs : s.callStack = fr :: rest) :
    GoesTo .exit s (popFrame s fr rest) fr.retPc := by
  refine goesTo_of_goTo ?_ (by simp) (by simp)
  show execExit s = _
  simp only [execExit, hs]

theorem reg_popFrame_arg (s : State) (fr : Frame) (rest : List Frame) {r : Reg} (h : r ∈ argRegs) :
    (popFrame s fr rest).reg r = .noValue := by
  simp only [reg_popFrame, if_pos h]

/-- A return restores R6 to R10 from the frame, register by register (rule R266). -/
theorem reg_popFrame_saved (s : State) (fr : Frame) (rest : List Frame) :
    (popFrame s fr rest).reg 6 = fr.s6 ∧ (popFrame s fr rest).reg 7 = fr.s7 ∧ (popFrame s fr rest).reg 8 = fr.s8 ∧
      (popFrame s fr rest).reg 9 = fr.s9 ∧ (popFrame s fr rest).reg 10 = .value fr.s10 := by
  simp [reg_popFrame, argRegs]

/-- Popping the frame of a caller, in whatever state, gives its R6 to R10 back (rules R265, R266). -/
theorem reg_popFrame_callerFrame {s : State} {fp : Word} (t : State) (rest : List Frame)
    (hfp : s.reg 10 = .value fp) :
    ∀ r ∈ ([6, 7, 8, 9, 10] : List Reg), (popFrame t (callerFrame s fp) rest).reg r = s.reg r := by
  obtain ⟨h6, h7, h8, h9, h10⟩ := reg_popFrame_saved t (callerFrame s fp) rest
  simp only [List.forall_mem_cons]
  exact ⟨h6, h7, h8, h9, h10.trans hfp.symm, nofun⟩

/-! ## The obligations -/

/-- Settles O48: the call pushed the caller's frame, and the exit popped that frame. -/
theorem callThenReturnRestoresTheCaller : Obligations.CallThenReturnRestoresTheCaller := by
  intro s t t' u off imm fp _ hfp hcall ht hstack _ hexit hu
  rw [callStack_of_callLocal (readReg_value hfp) hcall ht] at hstack
  obtain ⟨-, rfl⟩ := eq_setPc_of_goesTo (goesTo_exit hstack) hexit hu
  refine ⟨fun r hr => ?_, ?_, ?_⟩
  · rw [setPc_reg, reg_popFrame_callerFrame t' s.callStack hfp r hr]
  · rw [setPc_callStack, popFrame_callStack]
  · rw [setPc_pc, Int.toNat_natCast, callerFrame]

/-- Settles O42: in either space the effect is that of the helper's answer, which its behaviour gives. -/
theorem helperCalls : Obligations.HelperCalls := by
  refine ⟨fun s imm h args hargs p hp hentry hfeature => ?_, fun s imm v1 v2 h1 h2 hentry => ?_⟩
  · refine ⟨_, helperAnswer s p.1 imm.toInt h.behaviour args,
      completes_of_callHelperIn (exec_helperCall hp hfeature) hentry hargs,
      fun result effects hb => ?_, fun given x hb hx => ?_, reg_applyHelper_zero _ _,
      fun r hr => reg_applyHelper_arg _ _ hr, fun r hr => reg_applyHelper_frame _ _ (by revert r; decide),
      applyHelper_callStack _ _, applyHelper_status _ _, applyHelper_text _ _, applyHelper_cfg _ _,
      fun a ha => applyHelper_byteAt _ _ ha, fun a ha => applyHelper_lookup _ _ ha⟩
    · rw [hb, helperAnswer_computes]
      exact ⟨rfl, rfl⟩
    · rw [hb, helperAnswer_of_given hx]
  · refine ⟨_, completes_of_callHelperIn (exec_callHelper imm s) hentry (readRegs_pair h1 h2),
      reg_applyHelper_zero _ _, applyHelper_mem _ _⟩

/-- Settles O45: the distance fields decide between the two outcomes, and the frame pushed is the caller's. -/
theorem localCall : Obligations.LocalCall := by
  intro s off imm fp distance hfp
  refine ⟨fun hfield hdepth => ?_, fun hfields => ?_⟩
  · exact ⟨pushFrame s fp,
      goesTo_callLocal hfp (localCallDistance_eq_some.2 hfield) (atDepthLimit_eq_false.2 hdepth),
      pushFrame_callStack s fp, reg_pushFrame_ten s fp, fun r hr => reg_pushFrame_hidden s fp hr,
      fun r hr => reg_pushFrame_frame s fp (by revert r; decide), pushFrame_mem s fp, pushFrame_status s fp,
      pushFrame_text s fp, pushFrame_cfg s fp⟩
  · exact raises_callLocal_of_no_distance (localCallDistance_eq_none.2 hfields)

/-- Settles O47, by the call depth. -/
theorem exitEndsOrReturns : Obligations.ExitEndsOrReturns := by
  refine ⟨fun s v hs hv => exec_exit_of_empty hs hv, fun s fr rest hs => ?_⟩
  obtain ⟨h6, h7, h8, h9, h10⟩ := reg_popFrame_saved s fr rest
  exact ⟨popFrame s fr rest, goesTo_exit hs, popFrame_callStack s fr rest, h6, h7, h8, h9, h10,
    fun r hr => reg_popFrame_arg s fr rest hr, reg_popFrame_frame s fr rest (by decide), popFrame_mem s fr rest,
    popFrame_status s fr rest, popFrame_text s fr rest, popFrame_cfg s fr rest⟩

end Sys2Proof.Machine

/-! Proofs about loads and stores, and about accesses that are not admitted. `LoadStep`, `StoreStep` and `AtomicStep`
say once which access an instruction makes when its registers can be read; by the check of that access it completes or
raises the fault of the check. -/

namespace Sys2Proof.Machine

/-! ## Accesses that are admitted, and accesses that are not -/

section
variable {s : State} {addr : Word} {n : Nat} {e : Fault}

theorem memRead_of_admitted (hc : checkAccess s .read addr n = .ok ()) :
    memRead s addr n =
      .ok (loadThrough s (movesWithin s addr n) addr n, envWrites s (movesWithin s addr n)) := by
  rw [memRead, hc, ok_bind]

theorem memRead_of_fault (hc : checkAccess s .read addr n = .error e) : memRead s addr n = .error e := by
  rw [memRead, hc, error_bind]

theorem memWrite_of_admitted (v : Word) (hc : checkAccess s .write addr n = .ok ()) :
    memWrite s addr n v = .ok (storeThrough s (movesWithin s addr n) addr n v) := by
  rw [memWrite, hc, ok_bind]

theorem memWrite_of_fault (v : Word) (hc : checkAccess s .write addr n = .error e) :
    memWrite s addr n v = .error e := by
  rw [memWrite, hc, error_bind]

theorem atomicRMW_of_fault (f : Word → Option Word) (hc : checkAccess s .atomic addr n = .error e) :
    atomicRMW s addr n f = .error e := by
  rw [atomicRMW, hc, error_bind]

end

/-! ## The value that a load takes -/

theorem assemble_toNat_lt (bo : ByteOrder) {bs : List Byte} {n : Nat} (h : bs.length = n) :
    (assemble bo bs).toNat < 2 ^ (8 * n) := by
  subst h
  cases bo with
  | le => exact joinLow_toNat_lt bs
  | be => simpa [assemble] using joinLow_toNat_lt bs.reverse

/-- Byte `k` of a value is the byte at the place that rule R60 gives it. -/
theorem extractLsb'_assemble (bo : ByteOrder) (bs : List Byte) {k : Nat} (hk : k < 8) (h : k < bs.length) :
    (assemble bo bs).extractLsb' (8 * k) 8 = bs[byteIndex bo bs.length k]'(byteIndex_lt h) := by
  cases bo with
  | le => exact extractLsb'_joinLow bs hk h
  | be => rw [assemble, extractLsb'_joinLow _ hk (by simpa using h), List.getElem_reverse]; rfl

theorem loadThrough_toNat_lt (s : State) (moves : List (List Host.Cell)) (addr : Word) (n : Nat) :
    (loadThrough s moves addr n).toNat < 2 ^ (8 * n) :=
  assemble_toNat_lt _ (by simp)

/-- A byte of the loaded value is the byte of memory at its place, as the moves before its own access left it (rules
R60, R71). -/
theorem extractLsb'_loadThrough (s : State) (moves : List (List Host.Cell)) (addr : Word) {n k : Nat} (hn : n ≤ 8)
    (hk : k < n) :
    (loadThrough s moves addr n).extractLsb' (8 * k) 8 =
      (envLast s.cfg (moves.take (accessTime s moves.length (byteIndex s.cfg.byteOrder n k)))
        (addr.toNat + byteIndex s.cfg.byteOrder n k)).getD (s.byteAt (addr.toNat + byteIndex s.cfg.byteOrder n k)) := by
  rw [loadThrough, extractLsb'_assemble _ _ (hk.trans_le hn) (by simpa using hk)]
  simp [envWrites_byteAt]

/-! ## The bytes that a store leaves -/

/-- The byte at the place of byte `k` holds what the last move after its own access wrote there, or else byte `k` of
the stored value (rules R60, R71). -/
theorem storeThrough_byteAt_byteIndex (s : State) (moves : List (List Host.Cell)) (addr v : Word) {n k : Nat}
    (hk : k < n) :
    (storeThrough s moves addr n v).byteAt (addr.toNat + byteIndex s.cfg.byteOrder n k) =
      (envLast s.cfg (moves.drop (accessTime s moves.length (byteIndex s.cfg.byteOrder n k)))
        (addr.toNat + byteIndex s.cfg.byteOrder n k)).getD (v.extractLsb' (8 * k) 8) := by
  rw [storeThrough_byteAt_inside s moves addr n v (byteIndex_lt hk), layout_getElem_byteIndex v hk]

/-! ## Running a load, a store or an atomic -/

/-- Instruction `i` loads the `n` bytes at `addr` into `d` (rule R271). -/
def LoadStep (i : Instr) (s : State) (d : Reg) (addr : Word) (n : Nat) : Prop :=
  exec i s = settle s (memRead s addr n >>= fun p => writeBack p.2 d p.1)

/-- Instruction `i` stores the low `n` bytes of `v` at `addr` (rule R271). -/
def StoreStep (i : Instr) (s : State) (addr : Word) (n : Nat) (v : Word) : Prop :=
  exec i s = settle s (memWrite s addr n v >>= fun t => advance t 1)

/-- Instruction `i` updates the `n` bytes at `addr` by `f` and ends as `finish` says of the old value and of the state
after the update (rules R82, R293). -/
def AtomicStep (i : Instr) (s : State) (addr : Word) (n : Nat) (f : Word → Option Word)
    (finish : Word × State → Except Fault State) : Prop :=
  exec i s = settle s (atomicRMW s addr n f >>= finish)

section
variable {i : Instr} {s : State} {d r : Reg} {off : BitVec 16} {base v c : Word} {n : Nat}

theorem loadStep_of_loadInto (hd : d ≠ 10) (hbase : readReg s .src r = .ok base)
    (h : exec i s = loadInto n d r off s) : LoadStep i s d (effectiveAddr base off) n := by
  rw [LoadStep, h, loadInto, checkWritable_of_ne s hd, ok_bind, hbase, ok_bind]

theorem storeStep_of_storeImm {imm : BitVec 32} (hbase : readReg s .dst d = .ok base)
    (h : exec i s = storeImm n d off imm s) : StoreStep i s (effectiveAddr base off) n (sextImm imm) := by
  rw [StoreStep, h, storeImm, hbase, ok_bind]

theorem storeStep_of_storeReg (hbase : readReg s .dst d = .ok base) (hv : readReg s .src r = .ok v)
    (h : exec i s = storeReg n d r off s) : StoreStep i s (effectiveAddr base off) n v := by
  rw [StoreStep, h, storeReg, hbase, ok_bind, hv, ok_bind]

theorem atomicStep_of_atomicSimple {f : AtomicOp} (hbase : readReg s .dst d = .ok base)
    (hv : readReg s .src r = .ok v) (h : exec i s = atomicSimple n f d r off s) :
    AtomicStep i s (effectiveAddr base off) n (fun old => some (f old v)) (fun p => advance p.2 1) := by
  rw [AtomicStep, h, atomicSimple, hbase, ok_bind, hv, ok_bind]

theorem atomicStep_of_atomicFetch {f : AtomicOp} (hr : r ≠ 10) (hbase : readReg s .dst d = .ok base)
    (hv : readReg s .src r = .ok v) (h : exec i s = atomicFetch n f d r off s) :
    AtomicStep i s (effectiveAddr base off) n (fun old => some (f old v)) (fun p => writeBack p.2 r p.1) := by
  rw [AtomicStep, h, atomicFetch, checkWritable_of_ne s hr, ok_bind, hbase, ok_bind, hv, ok_bind]

theorem atomicStep_of_atomicCompare {same : Word → Word → Bool} (hbase : readReg s .dst d = .ok base)
    (hv : readReg s .src r = .ok v) (hc : readReg s .r0 0 = .ok c) (h : exec i s = atomicCompare n same d r off s) :
    AtomicStep i s (effectiveAddr base off) n (fun old => if same old c then some v else none)
      (fun p => writeBack p.2 0 p.1) := by
  rw [AtomicStep, h, atomicCompare, hbase, ok_bind, hv, ok_bind, hc, ok_bind]

end

section
variable {i : Instr} {s : State} {d : Reg} {addr v : Word} {n : Nat} {e : Fault}

theorem LoadStep.completes (h : LoadStep i s d addr n) (hc : checkAccess s .read addr n = .ok ()) :
    Completes i s ((envWrites s (movesWithin s addr n)).write d (loadThrough s (movesWithin s addr n) addr n)) := by
  refine goesTo_of_goTo ?_ (by simp) (by simp)
  rw [h, memRead_of_admitted hc, ok_bind, writeBack, advance, write_pc, envWrites_pc, Nat.cast_one]

theorem LoadStep.raises (h : LoadStep i s d addr n) (hc : checkAccess s .read addr n = .error e) : Raises i s e := by
  rw [Raises, h, memRead_of_fault hc, error_bind, settle_error]

theorem StoreStep.completes (h : StoreStep i s addr n v) (hc : checkAccess s .write addr n = .ok ()) :
    Completes i s (storeThrough s (movesWithin s addr n) addr n v) := by
  refine goesTo_of_goTo ?_ (by simp) (by simp)
  rw [h, memWrite_of_admitted v hc, ok_bind, advance, storeThrough_pc, Nat.cast_one]

theorem StoreStep.raises (h : StoreStep i s addr n v) (hc : checkAccess s .write addr n = .error e) :
    Raises i s e := by
  rw [Raises, h, memWrite_of_fault v hc, error_bind, settle_error]

theorem AtomicStep.raises {f : Word → Option Word} {finish : Word × State → Except Fault State}
    (h : AtomicStep i s addr n f finish) (hc : checkAccess s .atomic addr n = .error e) : Raises i s e := by
  rw [Raises, h, atomicRMW_of_fault f hc, error_bind, settle_error]

end

/-- Each of the four loads is a `LoadStep` of at most eight bytes, the width of its name. -/
theorem loadStep_of_mem_loads {s : State} {d r : Reg} {off : BitVec 16} {base : Word} (hd : d ≠ 10)
    (hbase : readReg s .src r = .ok base) :
    ∀ p ∈ [(Instr.ldxw d r off, 4), (.ldxh d r off, 2), (.ldxb d r off, 1), (.ldxdw d r off, 8)],
      LoadStep p.1 s d (effectiveAddr base off) p.2 ∧ p.2 ≤ 8 := by
  have hstep {i : Instr} {n : Nat} (h : exec i s = loadInto n d r off s) := loadStep_of_loadInto hd hbase h
  simp only [List.forall_mem_cons]
  exact ⟨⟨hstep rfl, by decide⟩, ⟨hstep rfl, by decide⟩, ⟨hstep rfl, by decide⟩, ⟨hstep rfl, by decide⟩, nofun⟩

/-! ## The obligations -/

/-- Settles O49: memory is left as the moves within the access leave it, and each byte is read at its own time. -/
theorem loads : Obligations.Loads := by
  intro s d r off base hd hbase addr p hp hc moves
  obtain ⟨hstep, hn⟩ := loadStep_of_mem_loads hd hbase p hp
  refine ⟨envWrites s moves, loadThrough s moves addr p.2, hstep.completes hc, loadThrough_toNat_lt s moves addr p.2,
    fun k hk => extractLsb'_loadThrough s moves addr hn hk, envWrites_eq s moves, fun hprivate => ?_,
    envWrites_byteAt s moves⟩
  have hmoves : moves = [] := movesWithin_of_private hprivate
  rw [hmoves, envWrites_nil]

/-- Settles O50: a store of either source leaves the bytes that its interleaving with the moves gives. -/
theorem stores : Obligations.Stores := by
  intro s d off base hbase addr stored
  have hstored {i : Instr} {n : Nat} {v : Word} (hstep : StoreStep i s addr n v) : stored i n v := by
    intro hc moves
    exact ⟨storeThrough s moves addr n v, hstep.completes hc, storeThrough_regs .., storeThrough_callStack ..,
      storeThrough_status .., storeThrough_text .., storeThrough_cfg ..,
      fun k hk => storeThrough_byteAt_byteIndex s moves addr v hk,
      fun a ha => storeThrough_byteAt_outside s moves addr n v ha⟩
  refine ⟨fun imm => ?_, fun r v hv => ?_⟩
  · have hrun {i : Instr} {n : Nat} (h : exec i s = storeImm n d off imm s) :=
      hstored (storeStep_of_storeImm hbase h)
    exact ⟨hrun rfl, hrun rfl, hrun rfl, hrun rfl⟩
  · have hrun {i : Instr} {n : Nat} (h : exec i s = storeReg n d r off s) :=
      hstored (storeStep_of_storeReg hbase hv h)
    exact ⟨hrun rfl, hrun rfl, hrun rfl, hrun rfl⟩

/-- Settles O54: whichever access the instruction makes, the fault of its check is the instruction's. -/
theorem accessFaultsEndTheInstruction : Obligations.AccessFaultsEndTheInstruction := by
  refine ⟨fun s d r off base f hd hbase p hp hc => ?_, fun s d off imm base f hbase => ?_,
    fun s d r off base v f hbase hv => ?_, fun s d r off base v f hbase hv => ?_,
    fun s d r off base v f hr hbase hv => ?_, fun s d r off base v c f hbase hv hc => ?_⟩
  · obtain ⟨hstep, -⟩ := loadStep_of_mem_loads hd hbase p hp
    exact hstep.raises hc
  · have hraise {i : Instr} {n : Nat} (h : exec i s = storeImm n d off imm s) :=
      (storeStep_of_storeImm hbase h).raises (e := f)
    simp only [List.forall_mem_cons]
    exact ⟨hraise rfl, hraise rfl, hraise rfl, hraise rfl, nofun⟩
  · have hraise {i : Instr} {n : Nat} (h : exec i s = storeReg n d r off s) :=
      (storeStep_of_storeReg hbase hv h).raises (e := f)
    simp only [List.forall_mem_cons]
    exact ⟨hraise rfl, hraise rfl, hraise rfl, hraise rfl, nofun⟩
  · have hraise {i : Instr} {n : Nat} {g : AtomicOp} (h : exec i s = atomicSimple n g d r off s) :=
      (atomicStep_of_atomicSimple hbase hv h).raises (e := f)
    simp only [List.forall_mem_cons]
    exact ⟨hraise rfl, hraise rfl, hraise rfl, hraise rfl, hraise rfl, hraise rfl, hraise rfl, hraise rfl, nofun⟩
  · have hraise {i : Instr} {n : Nat} {g : AtomicOp} (h : exec i s = atomicFetch n g d r off s) :=
      (atomicStep_of_atomicFetch hr hbase hv h).raises (e := f)
    simp only [List.forall_mem_cons]
    exact ⟨hraise rfl, hraise rfl, hraise rfl, hraise rfl, hraise rfl, hraise rfl, hraise rfl, hraise rfl,
      hraise rfl, hraise rfl, nofun⟩
  · have hraise {i : Instr} {n : Nat} {same : Word → Word → Bool} (h : exec i s = atomicCompare n same d r off s) :=
      (atomicStep_of_atomicCompare hbase hv hc h).raises (e := f)
    simp only [List.forall_mem_cons]
    exact ⟨hraise rfl, hraise rfl, nofun⟩

end Sys2Proof.Machine

/-! Proofs about the atomics. What an operation computes is stated of the operation, at every width; an `AtomicStep`
whose access is admitted completes with the old value and the updated memory. -/

namespace Sys2Proof.Machine

/-! ## What the operations compute -/

/-- On the low `w` bits `f` is the operation `g` of natural numbers (rules R291, R292). -/
def ComputesMod {w : Nat} (f : BitVec w → BitVec w → BitVec w) (g : Nat → Nat → Nat) : Prop :=
  ∀ m n : Nat, f (BitVec.ofNat w m) (BitVec.ofNat w n) = BitVec.ofNat w (g m n)

section
variable {w : Nat}

theorem atomicAdd_computesMod : ComputesMod (w := w) atomicAdd (· + ·) := fun m n => (BitVec.ofNat_add m n).symm
theorem atomicOr_computesMod : ComputesMod (w := w) atomicOr (· ||| ·) := fun _ _ => BitVec.ofNat_or.symm
theorem atomicAnd_computesMod : ComputesMod (w := w) atomicAnd (· &&& ·) := fun _ _ => BitVec.ofNat_and.symm
theorem atomicXor_computesMod : ComputesMod (w := w) atomicXor (· ^^^ ·) := fun _ _ => BitVec.ofNat_xor.symm
theorem atomicXchg_computesMod : ComputesMod (w := w) atomicXchg (fun _ n => n) := fun _ _ => rfl

end

theorem low32_eq_ofNat (v : Word) : low32 v = BitVec.ofNat 32 v.toNat := BitVec.eq_of_toNat_eq (by simp)

/-- The 32-bit form of an operation takes the low halves and zero-extends the result (rule R292). -/
theorem ComputesMod.on32_eq {f : BitVec 32 → BitVec 32 → BitVec 32} {g : Nat → Nat → Nat} (h : ComputesMod f g)
    (old v : Word) : on32 f old v = BitVec.ofNat 64 (g old.toNat v.toNat % 2 ^ 32) := by
  rw [on32, low32_eq_ofNat, low32_eq_ofNat, h, zext32_eq_ofNat, BitVec.toNat_ofNat]

theorem ComputesMod.word_eq {f : AtomicOp} {g : Nat → Nat → Nat} (h : ComputesMod f g) (old v : Word) :
    f old v = BitVec.ofNat 64 (g old.toNat v.toNat % 2 ^ 64) := by
  rw [ofNat_mod_two_pow, ← h, BitVec.ofNat_toNat, BitVec.ofNat_toNat, BitVec.setWidth_eq, BitVec.setWidth_eq]

/-! ## The comparisons with R0 -/

/-- A loaded value is zero-extended (rule R60). -/
theorem load_toNat_lt (s : State) (addr : Word) (n : Nat) : (s.load addr n).toNat < 2 ^ (8 * n) :=
  loadThrough_nil s addr n ▸ loadThrough_toNat_lt s [] addr n

/-- The 32-bit comparison sees all of the old value, which is zero-extended, and the low half of R0 (rule R303). -/
theorem low32_load_beq_low32 (s : State) (addr c : Word) :
    (low32 (s.load addr 4) == low32 c) = true ↔ (s.load addr 4).toNat = c.toNat % 2 ^ 32 := by
  have hlt : (s.load addr 4).toNat < 2 ^ 32 := load_toNat_lt s addr 4
  rw [beq_iff_eq, BitVec.toNat_eq, low32_toNat, low32_toNat, Nat.mod_eq_of_lt hlt]

theorem word_beq_iff (a b : Word) : (a == b) = true ↔ a.toNat = b.toNat := by rw [beq_iff_eq, BitVec.toNat_eq]

/-! ## Running an atomic -/

section
variable {i : Instr} {s : State} {addr x : Word} {n : Nat} {f : Word → Option Word}

theorem atomicRMW_of_update (hc : checkAccess s .atomic addr n = .ok ()) (hf : f (s.load addr n) = some x) :
    atomicRMW s addr n f = .ok (s.load addr n, s.store addr n x) := by
  simp only [atomicRMW, hc, ok_bind, hf]

theorem atomicRMW_of_no_update (hc : checkAccess s .atomic addr n = .ok ()) (hf : f (s.load addr n) = none) :
    atomicRMW s addr n f = .ok (s.load addr n, s) := by
  simp only [atomicRMW, hc, ok_bind, hf]

/-- An atomic that writes no register leaves memory updated (rule R293). -/
theorem AtomicStep.completes_store (h : AtomicStep i s addr n f (fun p => advance p.2 1))
    (hc : checkAccess s .atomic addr n = .ok ()) (hf : f (s.load addr n) = some x) :
    Completes i s (s.store addr n x) :=
  goesTo_of_goTo (by rw [h, atomicRMW_of_update hc hf]; rfl) rfl rfl

/-- An atomic that updates memory and writes the old value to a register (rule R293). -/
theorem AtomicStep.completes_store_write {q : Reg} (h : AtomicStep i s addr n f (fun p => writeBack p.2 q p.1))
    (hc : checkAccess s .atomic addr n = .ok ()) (hf : f (s.load addr n) = some x) :
    Completes i s ((s.store addr n x).write q (s.load addr n)) :=
  goesTo_of_goTo (by rw [h, atomicRMW_of_update hc hf]; rfl) rfl rfl

/-- An atomic that leaves memory and writes the old value to a register: a compare-and-exchange without a match. -/
theorem AtomicStep.completes_write {q : Reg} (h : AtomicStep i s addr n f (fun p => writeBack p.2 q p.1))
    (hc : checkAccess s .atomic addr n = .ok ()) (hf : f (s.load addr n) = none) :
    Completes i s (s.write q (s.load addr n)) :=
  goesTo_of_goTo (by rw [h, atomicRMW_of_no_update hc hf]; rfl) rfl rfl

end

/-- A compare-and-exchange stores when `same` finds its condition true, and writes the old value to R0 in either case
(rules R303, R313). -/
theorem atomicCompare_completes {i : Instr} {s : State} {d r : Reg} {off : BitVec 16} {base v c : Word} {n : Nat}
    {same : Word → Word → Bool} {condition : Prop} (hbase : readReg s .dst d = .ok base)
    (hv : readReg s .src r = .ok v) (hr0 : readReg s .r0 0 = .ok c) (h : exec i s = atomicCompare n same d r off s)
    (hsame : same (s.load (effectiveAddr base off) n) c = true ↔ condition)
    (hc : checkAccess s .atomic (effectiveAddr base off) n = .ok ()) :
    (condition → Completes i s
      ((s.store (effectiveAddr base off) n v).write 0 (s.load (effectiveAddr base off) n))) ∧
    (¬ condition → Completes i s (s.write 0 (s.load (effectiveAddr base off) n))) := by
  have hstep := atomicStep_of_atomicCompare hbase hv hr0 h
  exact ⟨fun hyes => hstep.completes_store_write hc (if_pos (hsame.2 hyes)),
    fun hno => hstep.completes_write hc (if_neg (mt hsame.1 hno))⟩

/-! ## The obligations -/

/-- Settles O55: at each width every operation runs alike and stores what it computes. -/
theorem simpleAtomics : Obligations.SimpleAtomics := by
  intro s d r off base v hbase hv addr
  refine ⟨fun hc => ?_, fun hc => ?_⟩
  · have hrun {i : Instr} {f : BitVec 32 → BitVec 32 → BitVec 32} {g : Nat → Nat → Nat} (hg : ComputesMod f g)
        (h : exec i s = atomicSimple 4 (on32 f) d r off s) :=
      (atomicStep_of_atomicSimple hbase hv h).completes_store hc (congrArg some (hg.on32_eq _ v))
    exact ⟨hrun atomicAdd_computesMod rfl, hrun atomicOr_computesMod rfl, hrun atomicAnd_computesMod rfl,
      hrun atomicXor_computesMod rfl⟩
  · have hrun {i : Instr} {f : AtomicOp} {g : Nat → Nat → Nat} (hg : ComputesMod f g)
        (h : exec i s = atomicSimple 8 f d r off s) :=
      (atomicStep_of_atomicSimple hbase hv h).completes_store hc (congrArg some (hg.word_eq _ v))
    exact ⟨hrun atomicAdd_computesMod rfl, hrun atomicOr_computesMod rfl, hrun atomicAnd_computesMod rfl,
      hrun atomicXor_computesMod rfl⟩

/-- Settles O56: as for the simple operations, and the write of the old value comes after the base was read. -/
theorem fetchingAtomics : Obligations.FetchingAtomics := by
  intro s d r off base v hr hbase hv addr
  refine ⟨fun hc => ?_, fun hc => ?_⟩
  · have hrun {i : Instr} {f : BitVec 32 → BitVec 32 → BitVec 32} {g : Nat → Nat → Nat} (hg : ComputesMod f g)
        (h : exec i s = atomicFetch 4 (on32 f) d r off s) :=
      (atomicStep_of_atomicFetch hr hbase hv h).completes_store_write hc (congrArg some (hg.on32_eq _ v))
    exact ⟨hrun atomicAdd_computesMod rfl, hrun atomicOr_computesMod rfl, hrun atomicAnd_computesMod rfl,
      hrun atomicXor_computesMod rfl, hrun (g := fun _ n => n) atomicXchg_computesMod rfl⟩
  · have hrun {i : Instr} {f : AtomicOp} {g : Nat → Nat → Nat} (hg : ComputesMod f g)
        (h : exec i s = atomicFetch 8 f d r off s) :=
      (atomicStep_of_atomicFetch hr hbase hv h).completes_store_write hc (congrArg some (hg.word_eq _ v))
    exact ⟨hrun atomicAdd_computesMod rfl, hrun atomicOr_computesMod rfl, hrun atomicAnd_computesMod rfl,
      hrun atomicXor_computesMod rfl, hrun (g := fun _ n => n) atomicXchg_computesMod rfl⟩

/-- Settles O57: a match of the low halves is equality with the low half of R0, since the old value is zero-extended. -/
theorem compareAndExchange : Obligations.CompareAndExchange := by
  intro s d r off base v c hbase hv hr0 addr
  exact ⟨atomicCompare_completes hbase hv hr0 rfl (low32_load_beq_low32 s addr c),
    atomicCompare_completes hbase hv hr0 rfl (word_beq_iff (s.load addr 8) c)⟩

end Sys2Proof.Machine

/-! Proofs about the wide instructions. An instruction of subtype 1 to 6 differs from the others only in the address it
asks the platform for; what the platform's parameters say of such an address follows from `Config.wf`. -/

namespace Sys2Proof.Machine

/-! ## Running a wide instruction -/

section
variable {i : Instr} {s : State} {what : Feature} {enabled : Bool} {d : Reg} {address : Option Word} {v : Word}

/-- A wide instruction that writes `v`, which no register gives, completes with it (rules R39, R320). -/
theorem completesWide_of_wideResult (hd : d ≠ 10)
    (h : exec i s = settle s (checkWritable s d >>= fun _ => wideResult d v s)) : CompletesWide i s (s.write d v) :=
  goesTo_of_goTo (by rw [h, checkWritable_of_ne s hd, ok_bind]; rfl) rfl rfl

theorem wideAddress_of_defined (hon : enabled = true) (hv : address = some v) :
    wideAddress what enabled d address s = settle s (checkWritable s d >>= fun _ => wideResult d v s) := by
  subst hon hv
  rfl

theorem wideAddress_of_undefined (hd : d ≠ 10) (hno : ∀ v, ¬ (enabled = true ∧ address = some v)) :
    wideAddress what enabled d address s = .next (raise (.unsupportedFeature s.pc what) s) := by
  unfold wideAddress
  rw [checkWritable_of_ne s hd, ok_bind]
  split
  · next v => exact absurd ⟨rfl, rfl⟩ (hno v)
  · rfl

/-- An instruction of subtype 1 to 6 loads the address where the platform gives one, and else raises
`UnsupportedFeature` (rules R320, R356). -/
theorem platformLoad {defined : Word → Prop} (hd : d ≠ 10) (h : exec i s = wideAddress what enabled d address s)
    (hdef : ∀ v, defined v ↔ enabled = true ∧ address = some v) :
    (∀ v, defined v → CompletesWide i s (s.write d v)) ∧
      ((∀ v, ¬ defined v) → Raises i s (.unsupportedFeature s.pc what)) := by
  refine ⟨fun v hv => ?_, fun hno => ?_⟩
  · obtain ⟨hon, haddress⟩ := (hdef v).1 hv
    exact completesWide_of_wideResult hd (h.trans (wideAddress_of_defined hon haddress))
  · exact h.trans (wideAddress_of_undefined hd fun v => mt (hdef v).2 (hno v))

end

/-! ## The addresses -/

/-- The halves of a 64-bit immediate, both unsigned (rule R321). -/
theorem append_eq_ofNat (hi lo : BitVec 32) : hi ++ lo = BitVec.ofNat 64 (hi.toNat * 2 ^ 32 + lo.toNat) := by
  have hlo : lo.toNat < 2 ^ 32 := lo.isLt
  have happend : (hi ++ lo).toNat = hi.toNat * 2 ^ 32 + lo.toNat := by
    rw [BitVec.toNat_append, ← Nat.shiftLeft_add_eq_or_of_lt hlo, Nat.shiftLeft_eq]
  rw [← happend, BitVec.ofNat_toNat, BitVec.setWidth_eq]

theorem add_zeroExtend_eq_ofNat (base : Word) (next : BitVec 32) :
    base + next.zeroExtend 64 = BitVec.ofNat 64 (base.toNat + next.toNat) :=
  BitVec.eq_of_toNat_eq (by simp)

theorem mapValueAddr_eq_some {c : Config} {map : Option Word} {next : BitVec 32} {v : Word} :
    mapValueAddr c map next = some v ↔
      ∃ m b, map = some m ∧ c.mva.lookup m = some b ∧ v = BitVec.ofNat 64 (b.toNat + next.toNat) := by
  simp [mapValueAddr, Option.bind_eq_some_iff, add_zeroExtend_eq_ofNat, eq_comm (a := v)]

theorem codeAddr_eq_some {s : State} {imm : BitVec 32} {v : Word} :
    codeAddr s imm = some v ↔ InProgram s (s.pc + 1 + imm.toInt) ∧
      isSecondSlot s.text (s.pc + 1 + imm.toInt : Int).toNat = false ∧
      s.cfg.codeAddr.lookup (s.pc + 1 + imm.toInt : Int).toNat = some v := by
  rw [codeAddr, jumpTarget, InProgram]
  split
  · next hin => split <;> simp_all
  · next hout => simp [hout]

/-! ## The platform's addresses and its regions -/

theorem mem_of_lookup {α β : Type} [BEq α] [LawfulBEq α] {l : List (α × β)} {k : α} {b : β}
    (h : l.lookup k = some b) : (k, b) ∈ l := by
  obtain ⟨l₁, l₂, rfl, -⟩ := List.lookup_eq_some_iff.1 h
  simp

theorem config_wf_iff {c : Config} : c.wf = true ↔ c.regionsWf = true ∧ c.mapsWf = true ∧ c.variablesWf = true := by
  rw [Config.wf, Bool.and_eq_true, Bool.and_eq_true, and_assoc]

/-- The values of a map are a shared region from its base on (rules R323, R328; log 25). -/
theorem shared_region_of_mva {c : Config} {m b : Word} (hwf : c.wf = true) (hon : c.hasMaps = true)
    (h : c.mva.lookup m = some b) : ∃ g ∈ c.allRegions, g.shared = true ∧ g.base = b.toNat := by
  obtain ⟨-, hmaps, -⟩ := config_wf_iff.1 hwf
  simp only [Config.mapsWf, hon, Bool.not_true, Bool.false_or, List.all_eq_true] at hmaps
  simpa using hmaps _ (mem_of_lookup h)

/-- A variable is a region, and its address the base (rules R324, R329; log 25). -/
theorem region_of_variableAddr {c : Config} {imm : BitVec 32} {v : Word} (hwf : c.wf = true)
    (hon : c.hasVariables = true) (h : c.variableAddr.lookup imm = some v) :
    ∃ g ∈ c.allRegions, g.base = v.toNat := by
  obtain ⟨-, -, hvars⟩ := config_wf_iff.1 hwf
  simp only [Config.variablesWf, hon, Bool.not_true, Bool.false_or, List.all_eq_true] at hvars
  simpa using hvars _ (mem_of_lookup h)

/-- No region reaches beyond 2^64 (rule R66). -/
theorem base_add_size_le {c : Config} {g : Region} (hwf : c.wf = true) (hg : g ∈ c.allRegions) :
    g.base + g.size ≤ 2 ^ 64 := by
  obtain ⟨hregions, -, -⟩ := config_wf_iff.1 hwf
  simp only [Config.regionsWf, Bool.and_eq_true, List.all_eq_true, decide_eq_true_eq] at hregions
  obtain ⟨hbound, -⟩ := hregions
  exact hbound g hg

/-- An address some bytes into a region, from its base, does not wrap and lies in the region. -/
theorem containsRange_base_add {g : Region} {n : Nat} (hg : g.base + g.size ≤ 2 ^ 64) (hn : n < g.size) :
    (BitVec.ofNat 64 (g.base + n)).toNat = g.base + n ∧
      g.containsRange (BitVec.ofNat 64 (g.base + n)).toNat 1 = true := by
  have hsum : (BitVec.ofNat 64 (g.base + n)).toNat = g.base + n := by
    rw [BitVec.toNat_ofNat, Nat.mod_eq_of_lt (by omega)]
  rw [hsum, containsRange_iff]
  omega

/-! ## The obligations -/

/-- Settles O58: no register is read, and the two halves make the value. -/
theorem loadOfA64BitImmediate : Obligations.LoadOfA64BitImmediate := by
  intro s d imm next hd
  rw [← append_eq_ofNat]
  exact completesWide_of_wideResult hd rfl

/-- Settles O59: each subtype by the address it asks for. -/
theorem platformAddressLoads : Obligations.PlatformAddressLoads := by
  intro s d imm next hd given target
  refine ⟨platformLoad hd rfl ?mapFd, platformLoad hd rfl ?mapFdValue, platformLoad hd rfl ?varAddr,
    platformLoad hd rfl ?codeAddr, platformLoad hd rfl ?mapIdx, platformLoad hd rfl ?mapIdxValue⟩
  case mapFd => simp [and_assoc]
  case mapFdValue => simp [mapValueAddr_eq_some, and_assoc]
  case varAddr => simp
  case codeAddr => simp [codeAddr_eq_some, target]
  case mapIdx => simp
  case mapIdxValue => simp [mapValueAddr_eq_some]

/-- Settles O60: the loads complete by O59, and the regions are those that `Config.wf` asks for. -/
theorem platformAddressesPointIntoRegions : Obligations.PlatformAddressesPointIntoRegions := by
  intro s d imm next hd hwf
  obtain ⟨-, ⟨mapFdValue, -⟩, ⟨varAddr, -⟩, -, -, ⟨mapIdxValue, -⟩⟩ := platformAddressLoads s d imm next hd
  refine ⟨fun v hvars hv => ⟨varAddr v ⟨hvars, hv⟩, region_of_variableAddr hwf hvars hv⟩, ?_⟩
  intro m b hmaps hb v
  obtain ⟨g, hg, hshared, hbase⟩ := shared_region_of_mva hwf hmaps hb
  refine ⟨fun hfd hm => mapFdValue v ⟨hmaps, hfd, m, b, hm, hb, rfl⟩,
    fun hm => mapIdxValue v ⟨hmaps, m, b, hm, hb, rfl⟩, g, hg, hshared, hbase, fun hn => ?_⟩
  have hv : v = BitVec.ofNat 64 (g.base + next.toNat) := hbase ▸ rfl
  rw [hv]
  exact containsRange_base_add (base_add_size_le hwf hg) hn

end Sys2Proof.Machine

/-! Proofs about the faults. `RunsInStages` says once, of every instruction, that it checks the register it writes,
reads its operands in the order dst, src, and only then does the rest, which raises no depth fault. -/

namespace Sys2Proof.Machine

/-! ## Stages that raise no depth fault -/

/-- The stage does not raise `CallDepthExceeded`, and what it gives satisfies `P`. -/
def DepthSafe {α : Type} (P : α → Prop) : Except Fault α → Prop
  | .ok a => P a
  | .error f => ∀ k, f ≠ .callDepthExceeded k

/-- The status a stage leaves: that of `s`, or exited. -/
def KeepsOrExits (s t : State) : Prop := t.status = s.status ∨ ∃ v, t.status = .exited v

theorem depthSafe_bind {α β : Type} {P : α → Prop} {Q : β → Prop} {x : Except Fault α} {g : α → Except Fault β}
    (hx : DepthSafe P x) (hg : ∀ a, P a → DepthSafe Q (g a)) : DepthSafe Q (x >>= g) := by
  cases x with
  | ok a => exact hg a hx
  | error f => exact hx

theorem depthSafe_checkWritable (s : State) (r : Reg) : DepthSafe (fun _ => True) (checkWritable s r) := by
  unfold checkWritable
  split
  · trivial
  · exact nofun

theorem depthSafe_readReg (s : State) (pos : ReadPos) (r : Reg) : DepthSafe (fun _ => True) (readReg s pos r) := by
  unfold readReg
  split
  · trivial
  · split
    · exact nofun
    · trivial

theorem depthSafe_readRegs (s : State) (pos : ReadPos) (rs : List Reg) :
    DepthSafe (fun _ => True) (readRegs s pos rs) := by
  induction rs with
  | nil => trivial
  | cons r rs ih => exact depthSafe_bind (depthSafe_readReg s pos r) fun _ _ => depthSafe_bind ih fun _ _ => trivial

/-- The last stage of an instruction, whose effect so far has left the status. -/
theorem depthSafe_goTo {s t : State} {target : Int} (h : t.status = s.status) :
    DepthSafe (KeepsOrExits s) (goTo t target) := by
  unfold goTo
  split
  · exact .inl h
  · exact nofun

theorem depthSafe_writeBack (s : State) (d : Reg) (v : Word) : DepthSafe (KeepsOrExits s) (writeBack s d v) :=
  depthSafe_goTo rfl

theorem depthSafe_wideResult (s : State) (d : Reg) (v : Word) : DepthSafe (KeepsOrExits s) (wideResult d v s) :=
  depthSafe_goTo rfl

theorem depthSafe_branch (s : State) (taken : Bool) (off : BitVec 16) :
    DepthSafe (KeepsOrExits s) (branch s taken off) := by
  cases taken with
  | true => exact depthSafe_goTo rfl
  | false => exact depthSafe_goTo rfl

theorem depthSafe_checkAccess (s : State) (kind : AccessKind) (addr : Word) (n : Nat) :
    DepthSafe (fun _ => True) (checkAccess s kind addr n) := by
  unfold checkAccess
  split
  · exact nofun
  · split
    · exact nofun
    · split
      · exact nofun
      · split
        · trivial
        · exact nofun

theorem depthSafe_memRead (s : State) (addr : Word) (n : Nat) :
    DepthSafe (fun p => p.2.status = s.status) (memRead s addr n) :=
  depthSafe_bind (depthSafe_checkAccess s .read addr n) fun _ _ => envWrites_status s _

theorem depthSafe_memWrite (s : State) (addr : Word) (n : Nat) (v : Word) :
    DepthSafe (fun t => t.status = s.status) (memWrite s addr n v) :=
  depthSafe_bind (depthSafe_checkAccess s .write addr n) fun _ _ => storeThrough_status ..

theorem depthSafe_atomicRMW (s : State) (addr : Word) (n : Nat) (f : Word → Option Word) :
    DepthSafe (fun p => p.2.status = s.status) (atomicRMW s addr n f) :=
  depthSafe_bind (depthSafe_checkAccess s .atomic addr n) fun _ _ => by
    dsimp only
    cases f (s.load addr n) <;> rfl

theorem depthSafe_callHelperIn (space : HelperSpace) (imm : BitVec 32) (s : State) :
    DepthSafe (KeepsOrExits s) (callHelperIn space imm s) := by
  unfold callHelperIn
  split
  · exact nofun
  · exact depthSafe_bind (depthSafe_readRegs ..) fun _ _ => depthSafe_goTo (applyHelper_status ..)

theorem depthSafe_fetch (s : State) : DepthSafe (fun _ => True) (fetch s) := by
  unfold fetch
  split
  · exact nofun
  · split
    · trivial
    · exact nofun

/-- An arithmetic operation raises no depth fault, whatever its operands. -/
def OpDepthSafe {w : Nat} (f : AluOp w) : Prop := ∀ s a b, DepthSafe (fun _ => True) (f s a b)

theorem opDepthSafe_total {w : Nat} (f : BitVec w → BitVec w → BitVec w) : OpDepthSafe (total f) :=
  fun _ _ _ => trivial

theorem depthSafe_shiftAmount (s : State) (w b : Nat) : DepthSafe (fun _ => True) (shiftAmount s w b) := by
  unfold shiftAmount
  split
  · trivial
  · split
    · trivial
    · exact nofun

theorem opDepthSafe_lsh {w : Nat} : OpDepthSafe (opLsh (w := w)) :=
  fun s _ _ => depthSafe_bind (depthSafe_shiftAmount s w _) fun _ _ => trivial

theorem opDepthSafe_rsh {w : Nat} : OpDepthSafe (opRsh (w := w)) :=
  fun s _ _ => depthSafe_bind (depthSafe_shiftAmount s w _) fun _ _ => trivial

theorem opDepthSafe_arsh {w : Nat} : OpDepthSafe (opArsh (w := w)) :=
  fun s _ _ => depthSafe_bind (depthSafe_shiftAmount s w _) fun _ _ => trivial

/-! ## The stages of an instruction -/

/-- The check of the register an instruction writes, where it makes that check (rule R33). -/
def checkField (s : State) : Option Reg → Except Fault Unit
  | none => .ok ()
  | some r => checkWritable s r

/-- The value of the register that a field of the instruction names; 0, which nothing uses, where the instruction reads
no register through the field. -/
def operand (s : State) (pos : ReadPos) : Option Reg → Except Fault Word
  | none => .ok 0
  | some r => readReg s pos r

/-- Check, read dst, read src, and the rest of the instruction with the two values (rules R46, R353). -/
def staged (s : State) (checked dst src : Option Reg) (rest : Word → Word → Except Fault State) :
    Except Fault State := do
  checkField s checked
  let a ← operand s .dst dst
  let b ← operand s .src src
  rest a b

/-- Instruction `i` runs in these stages, and its rest raises no depth fault. -/
def RunsInStages (i : Instr) (s : State) (dst src : Option Reg) : Prop :=
  ∃ (checked : Option Reg) (rest : Word → Word → Except Fault State), (∀ d ∈ checked, d ∈ i.writes) ∧
    exec i s = settle s (staged s checked dst src rest) ∧ ∀ a b, DepthSafe (KeepsOrExits s) (rest a b)

theorem checkField_of_writable {i : Instr} (s : State) {checked : Option Reg} (h : ∀ d ∈ checked, d ∈ i.writes)
    (h10 : (10 : Reg) ∉ i.writes) : checkField s checked = .ok () := by
  cases checked with
  | none => rfl
  | some d => exact checkWritable_of_ne s fun e => h10 (e ▸ h d rfl)

theorem depthSafe_checkField (s : State) (checked : Option Reg) :
    DepthSafe (fun _ => True) (checkField s checked) := by
  cases checked with
  | none => trivial
  | some r => exact depthSafe_checkWritable s r

theorem depthSafe_operand (s : State) (pos : ReadPos) (o : Option Reg) :
    DepthSafe (fun _ => True) (operand s pos o) := by
  cases o with
  | none => trivial
  | some r => exact depthSafe_readReg s pos r

section
variable {i : Instr} {s : State} {dst src : Option Reg} {a : Word} {f : Fault}

theorem RunsInStages.raises_of_dst (h : RunsInStages i s dst src) (h10 : (10 : Reg) ∉ i.writes)
    (hf : operand s .dst dst = .error f) : Raises i s f := by
  obtain ⟨checked, rest, hchecked, hexec, -⟩ := h
  rw [Raises, hexec, staged, checkField_of_writable s hchecked h10, ok_bind, hf, error_bind, settle_error]

theorem RunsInStages.raises_of_src (h : RunsInStages i s dst src) (h10 : (10 : Reg) ∉ i.writes)
    (ha : operand s .dst dst = .ok a) (hf : operand s .src src = .error f) : Raises i s f := by
  obtain ⟨checked, rest, hchecked, hexec, -⟩ := h
  rw [Raises, hexec, staged, checkField_of_writable s hchecked h10, ok_bind, ha, ok_bind, hf, error_bind,
    settle_error]

theorem RunsInStages.depthSafe (h : RunsInStages i s dst src) :
    ∃ r, exec i s = settle s r ∧ DepthSafe (KeepsOrExits s) r := by
  obtain ⟨checked, rest, -, hexec, hrest⟩ := h
  exact ⟨_, hexec, depthSafe_bind (depthSafe_checkField s checked) fun _ _ =>
    depthSafe_bind (depthSafe_operand s .dst dst) fun a _ =>
      depthSafe_bind (depthSafe_operand s .src src) fun b _ => hrest a b⟩

end

/-! ## The stages of each form of instruction -/

section
variable {i : Instr} {s : State} {d r : Reg} {imm : BitVec 32} {off : BitVec 16} {n : Nat}

theorem runsInStages_aluK64 {f : AluOp 64} (hf : OpDepthSafe f) (hd : d ∈ i.writes)
    (h : exec i s = aluK64 f d imm s) : RunsInStages i s (some d) none :=
  ⟨some d, fun a _ => f s a (sextImm imm) >>= writeBack s d, by simpa using hd, h,
    fun _ _ => depthSafe_bind (hf ..) fun _ _ => depthSafe_writeBack ..⟩

theorem runsInStages_aluX64 {f : AluOp 64} (hf : OpDepthSafe f) (hd : d ∈ i.writes)
    (h : exec i s = aluX64 f d r s) : RunsInStages i s (some d) (some r) :=
  ⟨some d, fun a b => f s a b >>= writeBack s d, by simpa using hd, h,
    fun _ _ => depthSafe_bind (hf ..) fun _ _ => depthSafe_writeBack ..⟩

theorem runsInStages_aluK32 {f : AluOp 32} (hf : OpDepthSafe f) (hd : d ∈ i.writes)
    (h : exec i s = aluK32 f d imm s) : RunsInStages i s (some d) none :=
  ⟨some d, fun a _ => f s (low32 a) imm >>= fun v => writeBack s d (zext32 v), by simpa using hd, h,
    fun _ _ => depthSafe_bind (hf ..) fun _ _ => depthSafe_writeBack ..⟩

theorem runsInStages_aluX32 {f : AluOp 32} (hf : OpDepthSafe f) (hd : d ∈ i.writes)
    (h : exec i s = aluX32 f d r s) : RunsInStages i s (some d) (some r) :=
  ⟨some d, fun a b => f s (low32 a) (low32 b) >>= fun v => writeBack s d (zext32 v), by simpa using hd, h,
    fun _ _ => depthSafe_bind (hf ..) fun _ _ => depthSafe_writeBack ..⟩

/-- Negation and the byte swaps write a function of the destination. -/
theorem runsInStages_unary {g : Word → Word} (hd : d ∈ i.writes)
    (h : exec i s = settle s (checkWritable s d >>= fun _ => readReg s .dst d >>= fun a => writeBack s d (g a))) :
    RunsInStages i s (some d) none :=
  ⟨some d, fun a _ => writeBack s d (g a), by simpa using hd, h, fun _ _ => depthSafe_writeBack ..⟩

theorem runsInStages_mov {g : Word → Word} (hd : d ∈ i.writes)
    (h : exec i s = settle s (checkWritable s d >>= fun _ => readReg s .src r >>= fun b => writeBack s d (g b))) :
    RunsInStages i s none (some r) :=
  ⟨some d, fun _ b => writeBack s d (g b), by simpa using hd, h, fun _ _ => depthSafe_writeBack ..⟩

/-- What is written after the check of the destination comes from no register. -/
theorem runsInStages_of_result {x : Except Fault State} (hx : DepthSafe (KeepsOrExits s) x) (hd : d ∈ i.writes)
    (h : exec i s = settle s (checkWritable s d >>= fun _ => x)) : RunsInStages i s none none :=
  ⟨some d, fun _ _ => x, by simpa using hd, h, fun _ _ => hx⟩

theorem runsInStages_jccK64 {c : Word → Word → Bool} (h : exec i s = jccK64 c d imm off s) :
    RunsInStages i s (some d) none :=
  ⟨none, fun a _ => branch s (c a (sextImm imm)) off, nofun, h, fun _ _ => depthSafe_branch ..⟩

theorem runsInStages_jccX64 {c : Word → Word → Bool} (h : exec i s = jccX64 c d r off s) :
    RunsInStages i s (some d) (some r) :=
  ⟨none, fun a b => branch s (c a b) off, nofun, h, fun _ _ => depthSafe_branch ..⟩

theorem runsInStages_jccK32 {c : BitVec 32 → BitVec 32 → Bool} (h : exec i s = jccK32 c d imm off s) :
    RunsInStages i s (some d) none :=
  ⟨none, fun a _ => branch s (c (low32 a) imm) off, nofun, h, fun _ _ => depthSafe_branch ..⟩

theorem runsInStages_jccX32 {c : BitVec 32 → BitVec 32 → Bool} (h : exec i s = jccX32 c d r off s) :
    RunsInStages i s (some d) (some r) :=
  ⟨none, fun a b => branch s (c (low32 a) (low32 b)) off, nofun, h, fun _ _ => depthSafe_branch ..⟩

theorem runsInStages_loadInto (hd : d ∈ i.writes) (h : exec i s = loadInto n d r off s) :
    RunsInStages i s none (some r) :=
  ⟨some d, fun _ b => memRead s (effectiveAddr b off) n >>= fun p => writeBack p.2 d p.1, by simpa using hd, h,
    fun _ _ => depthSafe_bind (depthSafe_memRead ..) fun _ hp => depthSafe_goTo hp⟩

theorem runsInStages_storeImm (h : exec i s = storeImm n d off imm s) : RunsInStages i s (some d) none :=
  ⟨none, fun a _ => memWrite s (effectiveAddr a off) n (sextImm imm) >>= fun t => advance t 1, nofun, h,
    fun _ _ => depthSafe_bind (depthSafe_memWrite ..) fun _ ht => depthSafe_goTo ht⟩

theorem runsInStages_storeReg (h : exec i s = storeReg n d r off s) : RunsInStages i s (some d) (some r) :=
  ⟨none, fun a b => memWrite s (effectiveAddr a off) n b >>= fun t => advance t 1, nofun, h,
    fun _ _ => depthSafe_bind (depthSafe_memWrite ..) fun _ ht => depthSafe_goTo ht⟩

theorem runsInStages_atomicSimple {f : AtomicOp} (h : exec i s = atomicSimple n f d r off s) :
    RunsInStages i s (some d) (some r) :=
  ⟨none, fun a b => atomicRMW s (effectiveAddr a off) n (fun old => some (f old b)) >>= fun p => advance p.2 1,
    nofun, h, fun _ _ => depthSafe_bind (depthSafe_atomicRMW ..) fun _ hp => depthSafe_goTo hp⟩

theorem runsInStages_atomicFetch {f : AtomicOp} (hr : r ∈ i.writes) (h : exec i s = atomicFetch n f d r off s) :
    RunsInStages i s (some d) (some r) :=
  ⟨some r, fun a b => atomicRMW s (effectiveAddr a off) n (fun old => some (f old b)) >>= fun p => writeBack p.2 r p.1,
    by simpa using hr, h, fun _ _ => depthSafe_bind (depthSafe_atomicRMW ..) fun _ hp => depthSafe_goTo hp⟩

/-- The read of R0 belongs to the rest: it comes after those of dst and src (rule R353). -/
theorem runsInStages_atomicCompare {same : Word → Word → Bool} (h : exec i s = atomicCompare n same d r off s) :
    RunsInStages i s (some d) (some r) :=
  ⟨none, fun a b => readReg s .r0 0 >>= fun c =>
      atomicRMW s (effectiveAddr a off) n (fun old => if same old c then some b else none) >>= fun p =>
        writeBack p.2 0 p.1,
    nofun, h, fun _ _ => depthSafe_bind (depthSafe_readReg ..) fun _ _ =>
      depthSafe_bind (depthSafe_atomicRMW ..) fun _ hp => depthSafe_goTo hp⟩

theorem runsInStages_wideAddress {what : Feature} {enabled : Bool} {address : Option Word} (hd : d ∈ i.writes)
    (h : exec i s = wideAddress what enabled d address s) : RunsInStages i s none none := by
  refine runsInStages_of_result ?_ hd h
  split
  · exact depthSafe_wideResult ..
  · exact nofun

/-- An instruction with no register in its fields. -/
theorem runsInStages_of_no_operand {x : Except Fault State} (hx : DepthSafe (KeepsOrExits s) x)
    (h : exec i s = settle s x) : RunsInStages i s none none :=
  ⟨none, fun _ _ => x, nofun, h, fun _ _ => hx⟩

end

theorem runsInStages_legacy {i : Instr} {s : State} (h : exec i s = legacyPacket s) : RunsInStages i s none none :=
  runsInStages_of_no_operand (x := .error (unsupported s .legacyPacket)) nofun h

theorem runsInStages_callPlatform (imm : BitVec 32) (s : State) : RunsInStages (.callPlatform imm) s none none := by
  refine runsInStages_of_no_operand ?_ rfl
  split
  · exact depthSafe_callHelperIn ..
  · exact nofun

theorem runsInStages_exit (s : State) : RunsInStages .exit s none none := by
  refine runsInStages_of_no_operand ?_ rfl
  split
  · exact depthSafe_bind (depthSafe_readReg ..) fun v _ => .inr ⟨v, rfl⟩
  · exact depthSafe_goTo (popFrame_status ..)

/-- A BPF-local call raises the depth fault at the limit alone. -/
theorem runsInStages_callLocal (off : BitVec 16) (imm : BitVec 32) {s : State} (hlimit : atDepthLimit s = false) :
    RunsInStages (.callLocal off imm) s none none := by
  refine runsInStages_of_no_operand ?_ rfl
  split
  · exact nofun
  · refine depthSafe_bind (depthSafe_readReg ..) fun fp _ => ?_
    rw [if_neg (by simp [hlimit])]
    exact depthSafe_goTo (pushFrame_status s fp)

/-- Every instruction runs in stages, but a BPF-local call at the depth limit. -/
theorem runsInStages {i : Instr} {s : State} (hi : (∀ off imm, i ≠ .callLocal off imm) ∨ atDepthLimit s = false) :
    RunsInStages i s i.readsDst i.readsSrc := by
  cases i with
  | add32Imm d | sub32Imm d | mul32Imm d | div32Imm d | or32Imm d | and32Imm d | mod32Imm d | xor32Imm d =>
    exact runsInStages_aluK32 (opDepthSafe_total _) (List.mem_singleton_self d) rfl
  | add32Reg d | sub32Reg d | mul32Reg d | div32Reg d | or32Reg d | and32Reg d | mod32Reg d | xor32Reg d =>
    exact runsInStages_aluX32 (opDepthSafe_total _) (List.mem_singleton_self d) rfl
  | add64Imm d | sub64Imm d | mul64Imm d | div64Imm d | or64Imm d | and64Imm d | mod64Imm d | xor64Imm d =>
    exact runsInStages_aluK64 (opDepthSafe_total _) (List.mem_singleton_self d) rfl
  | add64Reg d | sub64Reg d | mul64Reg d | div64Reg d | or64Reg d | and64Reg d | mod64Reg d | xor64Reg d =>
    exact runsInStages_aluX64 (opDepthSafe_total _) (List.mem_singleton_self d) rfl
  | lsh32Imm d => exact runsInStages_aluK32 opDepthSafe_lsh (List.mem_singleton_self d) rfl
  | lsh32Reg d => exact runsInStages_aluX32 opDepthSafe_lsh (List.mem_singleton_self d) rfl
  | lsh64Imm d => exact runsInStages_aluK64 opDepthSafe_lsh (List.mem_singleton_self d) rfl
  | lsh64Reg d => exact runsInStages_aluX64 opDepthSafe_lsh (List.mem_singleton_self d) rfl
  | rsh32Imm d => exact runsInStages_aluK32 opDepthSafe_rsh (List.mem_singleton_self d) rfl
  | rsh32Reg d => exact runsInStages_aluX32 opDepthSafe_rsh (List.mem_singleton_self d) rfl
  | rsh64Imm d => exact runsInStages_aluK64 opDepthSafe_rsh (List.mem_singleton_self d) rfl
  | rsh64Reg d => exact runsInStages_aluX64 opDepthSafe_rsh (List.mem_singleton_self d) rfl
  | arsh32Imm d => exact runsInStages_aluK32 opDepthSafe_arsh (List.mem_singleton_self d) rfl
  | arsh32Reg d => exact runsInStages_aluX32 opDepthSafe_arsh (List.mem_singleton_self d) rfl
  | arsh64Imm d => exact runsInStages_aluK64 opDepthSafe_arsh (List.mem_singleton_self d) rfl
  | arsh64Reg d => exact runsInStages_aluX64 opDepthSafe_arsh (List.mem_singleton_self d) rfl
  | neg32 d => exact runsInStages_unary (g := fun a => zext32 (opNeg (low32 a))) (List.mem_singleton_self d) rfl
  | neg64 d => exact runsInStages_unary (g := opNeg) (List.mem_singleton_self d) rfl
  | le16 d | le32 d | le64 d | be16 d | be32 d | be64 d =>
    exact runsInStages_unary (List.mem_singleton_self d) rfl
  | mov32Imm d | mov64Imm d => exact runsInStages_of_result (depthSafe_writeBack ..) (List.mem_singleton_self d) rfl
  | mov32Reg d => exact runsInStages_mov (g := fun b => zext32 (low32 b)) (List.mem_singleton_self d) rfl
  | mov64Reg d => exact runsInStages_mov (g := id) (List.mem_singleton_self d) rfl
  | ja => exact runsInStages_of_no_operand (depthSafe_goTo rfl) rfl
  | jeq64Imm | jgt64Imm | jge64Imm | jset64Imm | jne64Imm | jsgt64Imm | jsge64Imm | jlt64Imm | jle64Imm | jslt64Imm
  | jsle64Imm => exact runsInStages_jccK64 rfl
  | jeq64Reg | jgt64Reg | jge64Reg | jset64Reg | jne64Reg | jsgt64Reg | jsge64Reg | jlt64Reg | jle64Reg | jslt64Reg
  | jsle64Reg => exact runsInStages_jccX64 rfl
  | jeq32Imm | jgt32Imm | jge32Imm | jset32Imm | jne32Imm | jsgt32Imm | jsge32Imm | jlt32Imm | jle32Imm | jslt32Imm
  | jsle32Imm => exact runsInStages_jccK32 rfl
  | jeq32Reg | jgt32Reg | jge32Reg | jset32Reg | jne32Reg | jsgt32Reg | jsge32Reg | jlt32Reg | jle32Reg | jslt32Reg
  | jsle32Reg => exact runsInStages_jccX32 rfl
  | callHelper => exact runsInStages_of_no_operand (depthSafe_callHelperIn ..) rfl
  | callLocal off imm => exact runsInStages_callLocal off imm (hi.resolve_left fun h => h off imm rfl)
  | callPlatform imm => exact runsInStages_callPlatform imm s
  | exit => exact runsInStages_exit s
  | ldxw d | ldxh d | ldxb d | ldxdw d => exact runsInStages_loadInto (List.mem_singleton_self d) rfl
  | stw | sth | stb | stdw => exact runsInStages_storeImm rfl
  | stxw | stxh | stxb | stxdw => exact runsInStages_storeReg rfl
  | atomicAdd32 | atomicOr32 | atomicAnd32 | atomicXor32 | atomicAdd64 | atomicOr64 | atomicAnd64 | atomicXor64 =>
    exact runsInStages_atomicSimple rfl
  | atomicFetchAdd32 _ r | atomicFetchOr32 _ r | atomicFetchAnd32 _ r | atomicFetchXor32 _ r | atomicXchg32 _ r
  | atomicFetchAdd64 _ r | atomicFetchOr64 _ r | atomicFetchAnd64 _ r | atomicFetchXor64 _ r | atomicXchg64 _ r =>
    exact runsInStages_atomicFetch (List.mem_singleton_self r) rfl
  | atomicCmpxchg32 | atomicCmpxchg64 => exact runsInStages_atomicCompare rfl
  | lddw d => exact runsInStages_of_result (depthSafe_wideResult ..) (List.mem_singleton_self d) rfl
  | ldMapFd d | ldMapFdValue d | ldVarAddr d | ldCodeAddr d | ldMapIdx d | ldMapIdxValue d =>
    exact runsInStages_wideAddress (List.mem_singleton_self d) rfl
  | ldabsw | ldabsh | ldabsb | ldabsdw | ldindw | ldindh | ldindb | ldinddw => exact runsInStages_legacy rfl

/-! ## Operands that cannot be read -/

/-- A BPF-local call writes R10 (rule R264). -/
theorem ne_callLocal_of_writes {i : Instr} (h10 : (10 : Reg) ∉ i.writes) (off : BitVec 16) (imm : BitVec 32) :
    i ≠ .callLocal off imm := by
  rintro rfl
  exact h10 (by simp [Instr.writes])

theorem operand_eq_ok {s : State} {pos : ReadPos} {o : Option Reg}
    (h : ∀ d, o = some d → ∃ a, readReg s pos d = .ok a) : ∃ a, operand s pos o = .ok a := by
  cases o with
  | none => exact ⟨0, rfl⟩
  | some d => exact h d rfl

/-- A compare-and-exchange reads R0 last, before its access (rules R303, R353). -/
theorem raises_of_atomicCompare {i : Instr} {s : State} {n : Nat} {same : Word → Word → Bool} {d r : Reg}
    {off : BitVec 16} {a b : Word} {f : Fault} (ha : readReg s .dst d = .ok a) (hb : readReg s .src r = .ok b)
    (hf : readReg s .r0 0 = .error f) (h : exec i s = atomicCompare n same d r off s) : Raises i s f := by
  rw [Raises, h, atomicCompare, ha, ok_bind, hb, ok_bind, hf, error_bind, settle_error]

theorem raises_exit_of_empty {s : State} {f : Fault} (hs : s.callStack = []) (hf : readReg s .r0 0 = .error f) :
    Raises .exit s f := by
  show execExit s = _
  simp only [execExit, hs, hf, error_bind, settle_error]

/-- The first register of a list that cannot be read decides (rule R353). -/
theorem readRegs_eq_error {s : State} {pos : ReadPos} {f : Fault} {rs : List Reg} {j : Nat} (hj : j < rs.length)
    (hbefore : ∀ m, ∀ hm : m < j, ∃ v, readReg s pos (rs[m]'(hm.trans hj)) = .ok v)
    (hf : readReg s pos rs[j] = .error f) : readRegs s pos rs = .error f := by
  induction rs generalizing j with
  | nil => cases hj
  | cons r rs ih =>
    cases j with
    | zero =>
      have hr : readReg s pos r = .error f := hf
      rw [readRegs, hr, error_bind]
    | succ j =>
      obtain ⟨v, hv⟩ := hbefore 0 (Nat.succ_pos j)
      have hr : readReg s pos r = .ok v := hv
      have hrest : readRegs s pos rs = .error f :=
        ih (Nat.lt_of_succ_lt_succ hj) (fun m hm => hbefore (m + 1) (Nat.succ_lt_succ hm)) hf
      rw [readRegs, hr, ok_bind, hrest, error_bind]

/-! ## Helper calls that stop -/

theorem callHelperIn_of_unknown {space : HelperSpace} {imm : BitVec 32} {s : State}
    (h : helperArity s.cfg space imm.toInt = none) :
    callHelperIn space imm s = .error (.unknownHelper s.pc space imm.toInt) := by
  rw [callHelperIn, helperArity_eq_none.1 h]

theorem callHelperIn_of_unreadable {space : HelperSpace} {imm : BitVec 32} {s : State} {k : Fin 6} {f : Fault}
    (h : helperArity s.cfg space imm.toInt = some k) (hf : readRegs s .arg (argRegs.take k.val) = .error f) :
    callHelperIn space imm s = .error f := by
  obtain ⟨entry, hentry, rfl⟩ := helperArity_eq_some.1 h
  rw [callHelperIn, hentry]
  simp only [hf, error_bind]

theorem raises_callHelper {s : State} {imm : BitVec 32} {f : Fault}
    (h : callHelperIn .agnostic imm s = .error f) : Raises (.callHelper imm) s f := by
  rw [Raises, exec_callHelper, h, settle_error]

theorem raises_callPlatform {s : State} {imm : BitVec 32} {f : Fault} (hfeature : s.cfg.hasPlatformHelpers = true)
    (h : callHelperIn .platform imm s = .error f) : Raises (.callPlatform imm) s f := by
  rw [Raises, exec_callPlatform imm hfeature, h, settle_error]

/-- Without the feature neither the table nor a register is looked at (rule R356). -/
theorem raises_callPlatform_of_no_feature {s : State} (imm : BitVec 32) (h : s.cfg.hasPlatformHelpers = false) :
    Raises (.callPlatform imm) s (.unsupportedFeature s.pc .platformHelper) := by
  show execCallPlatform imm s = _
  rw [execCallPlatform, if_neg (by simp [h]), settle_error, unsupported]

/-! ## The depth fault -/

theorem atDepthLimit_of_unbounded {s : State} (h : s.cfg.maxCallDepth = none) : atDepthLimit s = false :=
  atDepthLimit_eq_false.2 fun m hm => by simp [h] at hm

/-- A running machine takes no depth fault, but by a BPF-local call at the limit (rule R358). -/
theorem exec_no_depth_fault {i : Instr} {s t : State} (k : Nat)
    (hi : (∀ off imm, i ≠ .callLocal off imm) ∨ atDepthLimit s = false) (h : exec i s = .next t)
    (hs : s.status = .running) : t.status ≠ .faulted (.callDepthExceeded k) := by
  obtain ⟨r, hexec, hr⟩ := (runsInStages hi).depthSafe
  obtain rfl | ⟨f, rfl, rfl⟩ := settle_eq_next (hexec ▸ h)
  · obtain he | ⟨v, he⟩ : KeepsOrExits s t := hr
    · rw [he, hs]; exact nofun
    · rw [he]; exact nofun
  · rw [raise_status]
    exact fun e => hr k (RunStatus.faulted.inj e)

/-- Neither the fetch nor, where the depth is unbounded, an instruction raises the depth fault. -/
theorem step_no_depth_fault {s t : State} (k : Nat) (hmax : s.cfg.maxCallDepth = none) (h : step s = .next t) :
    t.status ≠ .faulted (.callDepthExceeded k) := by
  cases hs : s.status with
  | exited v => simp [step_of_exited hs] at h
  | faulted f => simp [step_of_faulted hs] at h
  | running =>
    cases hf : fetch s with
    | error f =>
      have hsafe := depthSafe_fetch s
      rw [hf] at hsafe
      rw [step_of_fetch_error hs hf] at h
      obtain rfl := Host.Outcome.next.inj h
      rw [raise_status]
      exact fun e => hsafe k (RunStatus.faulted.inj e)
    | ok i =>
      rw [step_of_fetch_ok hs hf] at h
      exact exec_no_depth_fault k (.inr (atDepthLimit_of_unbounded (by simp [hmax]))) h (by simp [hs])

/-! ## The obligations -/

/-- Settles O17, from the shape of the instruction's effect. -/
theorem statusChangesOnlyByFaultOrExit : Obligations.StatusChangesOnlyByFaultOrExit := by
  intro i s t h
  cases exec_shape h with
  | raised f => exact .inr (.inl ⟨f, rfl⟩)
  | exited v hi hs hv => exact .inr (.inr ⟨hi, hs, v, hv, rfl⟩)
  | _ => exact .inl (by simp)

/-- Settles O29: the order of the reads is that of the stages. -/
theorem readFaultsInOrder : Obligations.ReadFaultsInOrder := by
  have stages {i : Instr} (s : State) (h10 : (10 : Reg) ∉ i.writes) : RunsInStages i s i.readsDst i.readsSrc :=
    runsInStages (.inl (ne_callLocal_of_writes h10))
  refine ⟨fun i s d f h10 hd hf => ?_, fun i s r f h10 hr hdst hf => ?_, fun s d r off a b f ha hb hf => ?_,
    fun s f hs hf => raises_exit_of_empty hs hf⟩
  · exact (stages s h10).raises_of_dst h10 (by rw [hd]; exact hf)
  · obtain ⟨a, ha⟩ := operand_eq_ok hdst
    exact (stages s h10).raises_of_src h10 ha (by rw [hr]; exact hf)
  · exact ⟨raises_of_atomicCompare ha hb hf rfl, raises_of_atomicCompare ha hb hf rfl⟩

/-- Settles O44: the first argument register that cannot be read is among the first `k`, which the helper reads. -/
theorem helperCallTraps : Obligations.HelperCallTraps := by
  refine ⟨fun s imm h => raises_callPlatform_of_no_feature imm h, fun s imm k j hj f hjk hbefore hf => ?_⟩
  have hargs : readRegs s .arg (argRegs.take k.val) = .error f :=
    readRegs_eq_error (j := j) (by rw [List.length_take]; omega)
      (fun m hm => by rw [List.getElem_take]; exact hbefore m hm) (by rw [List.getElem_take]; exact hf)
  exact ⟨fun h => raises_callHelper (callHelperIn_of_unreadable h hargs),
    fun h hfeature => raises_callPlatform hfeature (callHelperIn_of_unreadable h hargs)⟩

/-- Settles O46: at the limit the fault comes before the target, and no other stage of any instruction raises it. -/
theorem callDepthLimit : Obligations.CallDepthLimit := by
  refine ⟨fun s off imm fp m hfp hfield hmax hlen => ?_,
    fun i s t k hmax h hs => exec_no_depth_fault k (.inr (atDepthLimit_of_unbounded hmax)) h hs,
    fun s t k hmax h => step_no_depth_fault k hmax h, fun i s t k hi h hs => exec_no_depth_fault k (.inl hi) h hs, rfl⟩
  have hlimit : atDepthLimit s = true := by simp [atDepthLimit, hmax, hlen]
  have hdistance : ∃ d, localCallDistance s.cfg.localCallField off imm = some d := by
    obtain ⟨hf, hz⟩ | ⟨hf, hz⟩ := hfield
    · exact ⟨_, localCallDistance_eq_some.2 (.inl ⟨hf, hz, rfl⟩)⟩
    · exact ⟨_, localCallDistance_eq_some.2 (.inr ⟨hf, hz, rfl⟩)⟩
  obtain ⟨d, hd⟩ := hdistance
  exact raises_callLocal_at_limit (readReg_value hfp) hd hlimit

/-- Settles O43: the table is looked at before any register. -/
theorem unknownHelpers : Obligations.UnknownHelpers := fun _ _ =>
  ⟨fun h => raises_callHelper (callHelperIn_of_unknown h),
    fun hfeature h => raises_callPlatform hfeature (callHelperIn_of_unknown h)⟩

end Sys2Proof.Machine
